-- ==== Sys2Proof/Word.lean ====
section
/-! DEFINITION. The widths of the device's numbers (00_scope, Conventions) and the four lanes of a word (R18). -/

namespace Sys2Proof

/-- One byte. -/
abbrev Byte := BitVec 8

/-- A 16-bit number: batch ids, epoch numbers, counters, periods, the write hold limit (R181). -/
abbrev Half := BitVec 16

/-- A 32-bit byte address, time stamp or window size (00_scope, Conventions; R142). -/
abbrev Word := BitVec 32

/-- One value for each of the four lanes of a word, lane 0 first, which is address order (R18, R181). -/
structure Quad (α : Type) where
  l0 : α
  l1 : α
  l2 : α
  l3 : α
deriving DecidableEq, Repr

/-- The four values in lane order. -/
def Quad.toList {α : Type} (q : Quad α) : List α := [q.l0, q.l1, q.l2, q.l3]

/-- One function applied to every lane. -/
def Quad.map {α β : Type} (f : α → β) (q : Quad α) : Quad β := ⟨f q.l0, f q.l1, f q.l2, f q.l3⟩

/-- Two quads joined lane by lane. -/
def Quad.zipWith {α β γ : Type} (f : α → β → γ) (p : Quad α) (q : Quad β) : Quad γ :=
  ⟨f p.l0 q.l0, f p.l1 q.l1, f p.l2 q.l2, f p.l3 q.l3⟩

end Sys2Proof
end

