-- ==== Sys2Proof/Syntax.lean ====
section
/-! DEFINITION. The commands of the device: one constructor of Instr for each row of spec/opcode_table.json, with the row's operands.
Fields that a sender writes as codes are kept as raw bytes, so that every BAD_ARGUMENT of the spec can be reached. -/

namespace Sys2Proof

/-- The size of a bus read (R19). -/
inductive Size
  | one
  | two
  | four
deriving DecidableEq, Repr

/-- The bytes of a bus write in address order; how many there are is the write's size (R19). -/
inductive WriteData
  | one (b0 : Byte)
  | two (b0 b1 : Byte)
  | four (b0 b1 b2 b3 : Byte)
deriving DecidableEq, Repr

/-- A transaction of a bus port, or an access on the memory port: its kind, address, size and data (R47, R118, R129). -/
inductive BusRequest
  | read (addr : Word) (size : Size)
  | write (addr : Word) (data : WriteData)
deriving DecidableEq, Repr

/-- What memory answers (R129). For a read of n bytes the first n bytes of the operand are the bytes returned, in address
order; for a write they are not looked at (log 6). -/
inductive MemAnswer
  | done (data : Quad Byte)
  | error
deriving DecidableEq, Repr

/-- The two epoch lines, EPOCHA and EPOCHB (R65). -/
inductive EpochLine
  | a
  | b
deriving DecidableEq, Repr

/-- The request payload of WINDOW_SET as its 22 bytes give it (R184). -/
structure WindowSetArgs where
  index : Byte
  base : Word
  size : Word
  cls : Byte
  updateAccess : Byte
  cycleAccess : Byte
  tap : Byte
  doneReports : Byte
  epochSource : Byte
  closeMode : Byte
  closingFlag : Byte
  closingAddr : Word
  batchLimit : Byte
deriving DecidableEq, Repr

/-- A command: one row of spec/opcode_table.json. -/
inductive Instr
  /-- RESETN falls (R1, R45, R46, R64, R79, R117, R130, R142, R179). -/
  | powerOnReset
  /-- RESETN rises (R66, R158). -/
  | resetnDeasserted
  /-- URSTN falls (R43, R60). -/
  | urstnAsserted
  /-- URSTN rises (R61). -/
  | urstnDeasserted
  /-- CRSTN falls (R127). -/
  | crstnAsserted
  /-- CRSTN rises (R127). -/
  | crstnDeasserted
  /-- A request on the update port (R47). -/
  | updateTransactionTaken (req : BusRequest)
  /-- The store reconsiders the held write (R29, R34). -/
  | heldWriteReconsidered
  /-- The write hold limit runs out (R35). -/
  | writeHoldExpired
  /-- A request on the cycle port (R118). -/
  | cycleTransactionTaken (req : BusRequest)
  /-- A rising edge of an epoch line (R65). -/
  | qualifyStart (line : EpochLine)
  /-- A falling edge of an epoch line (R65). -/
  | pulseDropped (line : EpochLine)
  /-- The line has stayed high for the qualify time (R65). -/
  | pulseAccepted (line : EpochLine)
  /-- The timer count reaches the active period (R68, R70). -/
  | periodEnd
  /-- The head of the commit queue begins its commit (R84). -/
  | commitStart
  /-- The arbiter grants the memory port (R132). -/
  | grant
  /-- Memory answers the access on the port (R136). -/
  | memoryAnswer (ans : MemAnswer)
  /-- The memory access timeout runs out (R134). -/
  | accessTimeout
  /-- Memory answers an access that has already ended (R134). -/
  | lateAnswer (ans : MemAnswer)
  /-- PART_RESET FULL completes (R178). -/
  | fullResetComplete
  /-- The idle timer runs out (R153). -/
  | idleTimerRunOut
  /-- SSN falls (R158). -/
  | linkTransactionStart
  /-- The CRC-8 byte of a request frame has been received; the operand holds the frame's bytes (R162). -/
  | requestFrameDecided (frame : List Byte)
  /-- The frame kind byte of a request has been received in a transaction that began with the slot busy (R163). -/
  | requestDropped
  /-- The frame kind byte COLLECT has been received (R164). -/
  | collect
  /-- SSN rises; the operands hold every whole byte received since SSN fell, and the bits of a byte cut short (R158, R165). -/
  | ssnRises (received : List Byte) (partialBits : List Bool)
  /-- IDENT (R171). -/
  | ident (tag : Byte)
  /-- WINDOW_SET (R12, R13). -/
  | windowSet (tag : Byte) (args : WindowSetArgs)
  /-- WINDOW_DROP (R14, R15). -/
  | windowDrop (tag index : Byte)
  /-- WINDOW_READ (R17). -/
  | windowRead (tag index : Byte)
  /-- WINDOW_CLEAR with action RETRY (R112). -/
  | windowClearRetry (tag index : Byte)
  /-- WINDOW_CLEAR with action ABANDON (R114). -/
  | windowClearAbandon (tag index : Byte)
  /-- BATCH_CLOSE (R36). -/
  | batchClose (tag index : Byte)
  /-- BATCH_DISCARD with target OPEN (R37). -/
  | batchDiscardOpen (tag index : Byte)
  /-- BATCH_DISCARD with target WAITING (R38). -/
  | batchDiscardWaiting (tag index : Byte)
  /-- BATCH_DISCARD with target QUEUED (R39). -/
  | batchDiscardQueued (tag index : Byte)
  /-- BATCH_LIST (R40). -/
  | batchList (tag index : Byte)
  /-- UNDO_READ (R115). -/
  | undoRead (tag start : Byte)
  /-- GATE with action HOLD (R82). -/
  | gateHold (tag : Byte)
  /-- GATE with action OPEN (R82). -/
  | gateOpen (tag : Byte)
  /-- GATE with the action absent (R83). -/
  | gateRead (tag : Byte)
  /-- TIMER_SET with a mode, and any other fields (R71, R72; log 13). -/
  | timerSetMode (tag mode : Byte) (period : Option Half) (qualifyA qualifyB : Option Byte)
  /-- TIMER_SET with a period and no mode (R71, R72; log 13). -/
  | timerSetPeriod (tag : Byte) (period : Half) (qualifyA qualifyB : Option Byte)
  /-- TIMER_SET with line A's qualify time, no mode and no period (R66, R72; log 13). -/
  | timerSetQualifyA (tag qualifyA : Byte) (qualifyB : Option Byte)
  /-- TIMER_SET with line B's qualify time alone (R66, R72). -/
  | timerSetQualifyB (tag qualifyB : Byte)
  /-- TIMER_SET with no field present (R72). -/
  | timerSettingsRead (tag : Byte)
  /-- LIMITS_SET with the write hold limit, and any other limits (R172, R173; log 13). -/
  | limitsSetWriteHoldLimit (tag : Byte) (limit : Half) (timeout watermark idle : Option Byte)
  /-- LIMITS_SET with the memory access timeout and no write hold limit (R172, R173; log 13). -/
  | limitsSetMemoryAccessTimeout (tag timeout : Byte) (watermark idle : Option Byte)
  /-- LIMITS_SET with the watermark and neither limit above (R172, R173; log 13). -/
  | limitsSetWatermark (tag watermark : Byte) (idle : Option Byte)
  /-- LIMITS_SET with the idle time alone (R172, R173). -/
  | limitsSetIdleTime (tag idle : Byte)
  /-- LIMITS_READ (R174). -/
  | limitsRead (tag : Byte)
  /-- COUNTERS_READ (R175). -/
  | countersRead (tag : Byte)
  /-- REPORTS_TAKE (R150). -/
  | reportsTake (tag : Byte)
  /-- MEMORY_PROBE in view MEMORY (R139). -/
  | memoryProbeMemory (tag : Byte) (addr : Word)
  /-- MEMORY_PROBE in view UPDATE (R140). -/
  | memoryProbeUpdate (tag : Byte) (addr : Word)
  /-- PART_RESET with scope BATCHES (R176). -/
  | partResetBatches (tag : Byte)
  /-- PART_RESET with scope FULL (R177). -/
  | partResetFull (tag : Byte)
deriving DecidableEq, Repr

end Sys2Proof
end

