-- ==== Sys2Proof/Config.lean ====
section
/-! DEFINITION. The device's fixed capacities, its identity (R171) and the values its settings take at power-on reset. The spec
leaves no value the device computes open, so there is no free value here. -/

namespace Sys2Proof.Config

/-- Staging entries shared by all windows (R18). -/
def stagingEntries : Nat := 256

/-- The largest batch limit (R7, R171). -/
def largestBatchLimit : Nat := 64

/-- Places in one window's waiting list (R24). -/
def waitingPlaces : Nat := 4

/-- Commit queue entries (R80, R171). -/
def commitQueueEntries : Nat := 16

/-- Undo log records (R89, R171). -/
def undoRecords : Nat := 64

/-- Report queue records (R146). -/
def reportRecords : Nat := 64

/-- The largest payload of a frame (R160). -/
def largestPayload : Nat := 60

/-- Grants to CP in a row after which another requester is let in (R133). -/
def streakLimit : Nat := 8

/-- Vendor code (R171). -/
def vendorCode : Half := 0x0C31

/-- Part code (R171). -/
def partCode : Half := 0x0216

/-- Revision (R171). -/
def revision : Byte := 0x01

/-- Write hold limit after power-on reset, in µs (R30). -/
def writeHoldLimit : Half := 2000

/-- Memory access timeout after power-on reset, in µs (R135). -/
def accessTimeout : Byte := 50

/-- Watermark after power-on reset (R142). -/
def watermark : Byte := 16

/-- Idle time after power-on reset, in units of 100 µs (R142). -/
def idleTime : Byte := 10

/-- Qualify time of each line after power-on reset, in µs (R64). -/
def qualifyTime : Byte := 2

/-- Active period after power-on reset, in µs (R64). -/
def activePeriod : Half := 1000

/-- Microseconds in one unit of the idle time (R153). -/
def idleUnit : Nat := 100

end Sys2Proof.Config
end

