-- ==== Sys2Proof/Machine/State.lean ====
section
/-! DEFINITION. The state of the device, block by block (00_scope, block overview), as plain data, and the state right after reset.
A field that the spec makes present only in some states is carried by the constructor of those states. -/

namespace Sys2Proof.Machine

/-- A window index, 0 to 15 (R1). -/
abbrev WIdx := Fin 16

/-! ### Window Table (chapter 1) -/

/-- Values of the update access and cycle access fields (R4). -/
inductive Access
  | none
  | readOnly
  | readWrite
deriving DecidableEq, Repr

/-- Values of the tap field (R5). -/
inductive Tap
  | off
  | updateWrites
  | allWrites
deriving DecidableEq, Repr

/-- The three sources that give epochs (R67). -/
inductive EpochSource
  | lineA
  | lineB
  | timer
deriving DecidableEq, Repr

/-- Values of a HELD window's epoch source field (R6); IMMEDIATE gives no epochs. -/
inductive WindowSource
  | epoch (src : EpochSource)
  | immediate
deriving DecidableEq, Repr

/-- Values of the close mode field (R6). -/
inductive CloseMode
  | onClosingWrite
  | onEpoch
deriving DecidableEq, Repr

/-- The descriptor fields that only a HELD window has (R6, R7). -/
structure HeldFields where
  source : WindowSource
  closeMode : CloseMode
  closing : Option Word
  batchLimit : Byte
deriving DecidableEq, Repr

/-- The class of a window, with the fields of a HELD one (R3). -/
inductive WindowClass
  | pass
  | held (fields : HeldFields)
deriving DecidableEq, Repr

/-- A window descriptor (R2 to R7). -/
structure Descriptor where
  base : Word
  size : Word
  cls : WindowClass
  updateAccess : Access
  cycleAccess : Access
  tap : Tap
  doneReports : Bool
deriving DecidableEq, Repr

/-- The status of a place, with the descriptor an installed window has (R1, R8). -/
inductive Place
  | free
  | active (desc : Descriptor)
  | faulted (desc : Descriptor)
deriving DecidableEq, Repr

/-- The five counters of a window (R9). -/
structure WindowCounters where
  commitsDone : Half
  batchesAborted : Half
  batchesSpoiled : Half
  epochOverruns : Half
  accessesDenied : Half
deriving DecidableEq, Repr

/-! ### Staging Store (chapter 2) -/

/-- A staging entry: a word and, for each lane of its lane mask, the staged byte; a lane outside the mask has none (R18). -/
structure Entry where
  addr : Word
  lanes : Quad (Option Byte)
deriving DecidableEq, Repr

/-- Causes of a batch becoming SPOILED (R21). -/
inductive SpoilCause
  | batchLimit
  | storeFull
  | holdExpired
  | closeHoldExpired
deriving DecidableEq, Repr

/-- Causes of a close (R32). -/
inductive CloseCause
  | closingWrite
  | closeCommand
  | epoch
deriving DecidableEq, Repr

/-- The batch in a window's open batch slot: OPEN with its entry list, or SPOILED with its cause (R21, R24). -/
inductive OpenBatch
  | gathering (id : Half) (entries : List Entry)
  | spoiled (id : Half) (cause : SpoilCause)
deriving DecidableEq, Repr

/-- The states of a batch in a waiting list (R24). -/
inductive BatchState
  | closed
  | queued
  | committing
  | rollingBack
deriving DecidableEq, Repr

/-- A queueing stamp: the epoch that queued the batch (R21). -/
structure Stamp where
  source : EpochSource
  number : Half
deriving DecidableEq, Repr

/-- A batch in a waiting list (R21). -/
structure WaitBatch where
  id : Half
  entries : List Entry
  state : BatchState
  cause : CloseCause
  stamp : Option Stamp
deriving DecidableEq, Repr

/-- One place of the Window Table with its counters, and the batches the Staging Store keeps for it, oldest at the head of the
waiting list (R1, R9, R24). -/
structure Window where
  place : Place
  counters : WindowCounters
  openBatch : Option OpenBatch
  waiting : List WaitBatch
deriving DecidableEq, Repr

/-- The Staging Store's state that belongs to no window (R22, R30). -/
structure Store where
  nextId : Half
  writeHoldLimit : Half
deriving DecidableEq, Repr

/-! ### Ports (chapters 3 and 7) -/

/-- The result of decoding an address, with the descriptor fields the port needs (R11). -/
inductive Decode
  | unmapped
  | pass (window : WIdx) (updateAccess cycleAccess : Access) (tap : Tap)
  | held (window : WIdx) (updateAccess cycleAccess : Access) (tap : Tap) (fields : HeldFields)
  | faulted (window : WIdx)
deriving DecidableEq, Repr

/-- An answer on an upstream port (00_scope, Transactions and answers). -/
inductive Answer
  | done (data : List Byte)
  | fault
deriving DecidableEq, Repr

/-- What a held write waits for (R29, R34). -/
inductive WaitsFor
  | stagingEntry
  | listRoom
deriving DecidableEq, Repr

/-- A write to a HELD window with the part of its decode that decides it (R25, R54). -/
structure StagedWrite where
  addr : Word
  data : WriteData
  window : WIdx
  tap : Tap
  fields : HeldFields
deriving DecidableEq, Repr

/-- A held write's timer: the limit in force when it was first held, and the microseconds since (R29, R30). -/
structure HoldTimer where
  limit : Half
  elapsed : Nat
deriving DecidableEq, Repr

/-- A transaction of the update port that makes a memory access, its decode, and, for each byte of a read, the staged byte found
when the read was taken (R42, R46, R57). -/
structure UpdateTxn where
  req : BusRequest
  decode : Decode
  staged : List (Option Byte)
deriving DecidableEq, Repr

/-- States of the Update Port Unit (R46). -/
inductive UpdateState
  | idle
  | requested (txn : UpdateTxn)
  | atMemory (txn : UpdateTxn)
  | held (write : StagedWrite) (waitsFor : WaitsFor) (timer : HoldTimer)
  | draining (txn : UpdateTxn)
deriving DecidableEq, Repr

/-- The Update Port Unit: its state, the answer given to the transaction last taken (none: none yet), and the requests that wait on
the handshake, the first presented first (R46, R47; log 8, log 9). -/
structure UpdateUnit where
  state : UpdateState
  answer : Option Answer
  waiting : List BusRequest
deriving DecidableEq, Repr

/-- A transaction of the cycle port with its decode (R117). -/
structure CycleTxn where
  req : BusRequest
  decode : Decode
deriving DecidableEq, Repr

/-- States of the Cycle Port Unit (R117). -/
inductive CycleState
  | idle
  | requested (txn : CycleTxn)
  | atMemory (txn : CycleTxn)
  | held (txn : CycleTxn)
  | draining (txn : CycleTxn)
deriving DecidableEq, Repr

/-- The Cycle Port Unit (R117, R118; log 8, log 9). -/
structure CycleUnit where
  state : CycleState
  answer : Option Answer
  waiting : List BusRequest
deriving DecidableEq, Repr

/-! ### Epoch Unit (chapter 4) -/

/-- A line qualifier's state; QUALIFYING carries the qualify time in force for the pulse and the time passed (R65, R66). -/
inductive QualifierState
  | low
  | qualifying (time : Byte) (elapsed : Nat)
  | high
deriving DecidableEq, Repr

/-- One epoch line's qualifier and its qualify time (R64). -/
structure Qualifier where
  state : QualifierState
  time : Byte
deriving DecidableEq, Repr

/-- Timer modes (R64). -/
inductive TimerMode
  | off
  | free
  | syncA
deriving DecidableEq, Repr

/-- The Epoch Unit (R64). -/
structure EpochUnit where
  lineA : Qualifier
  lineB : Qualifier
  mode : TimerMode
  active : Half
  pending : Option Half
  count : Half
  epochsA : Half
  epochsB : Half
  epochsTimer : Half
  flywheel : Half
deriving DecidableEq, Repr

/-! ### Commit Engine (chapters 5 and 6) -/

/-- Engine states (R79). -/
inductive EngineState
  | idle
  | committing
  | rollingBack
  | halted
deriving DecidableEq, Repr

/-- The two steps of a commit for one entry (R79). -/
inductive CommitStep
  | readOld
  | writeNew
deriving DecidableEq, Repr

/-- The commit gate (R82). -/
inductive Gate
  | opened
  | held
deriving DecidableEq, Repr

/-- The batch in hand, with the number of its entries whose write-new access has ended DONE (R79, R83). -/
structure BatchInHand where
  window : WIdx
  id : Half
  written : Nat
deriving DecidableEq, Repr

/-- The commit cursor (R79). -/
structure Cursor where
  index : Nat
  step : CommitStep
deriving DecidableEq, Repr

/-- An undo record: a word, its four old bytes, and the lane mask of the entry (R87, R89). -/
structure UndoRecord where
  addr : Word
  old : Quad Byte
  mask : Quad Bool
deriving DecidableEq, Repr

/-- The fault context (R100). -/
structure FaultContext where
  window : WIdx
  id : Half
  addr : Word
  step : CommitStep
  rolledBack : Nat
deriving DecidableEq, Repr

/-- The Commit Engine (R79, R100), with the records written back by a resumed rollback (R113). -/
structure Engine where
  state : EngineState
  gate : Gate
  queue : List (WIdx × Half)
  inHand : Option BatchInHand
  cursor : Option Cursor
  undo : List UndoRecord
  context : Option FaultContext
  resumedWrites : Nat
  fullReset : Bool
deriving DecidableEq, Repr

/-! ### Memory Port Arbiter (chapter 8) -/

/-- The four requesters (00_scope, Terms). -/
inductive Requester
  | cp
  | ce
  | up
  | sl
deriving DecidableEq, Repr

/-- An access on the memory port: what was asked, who asked, the timeout it was granted with and the time passed (R130, R134). -/
structure PortAccess where
  req : BusRequest
  owner : Requester
  timeout : Byte
  elapsed : Nat
deriving DecidableEq, Repr

/-- The Memory Port Arbiter; port none is FREE (R130). -/
structure Arbiter where
  port : Option PortAccess
  cp : Option BusRequest
  ce : Option BusRequest
  up : Option BusRequest
  sl : Option BusRequest
  streak : Nat
  timeout : Byte
deriving DecidableEq, Repr

/-! ### Report Unit (chapter 9) -/

/-- The two upstream ports (R181). -/
inductive Port
  | update
  | cycle
deriving DecidableEq, Repr

/-- Kinds of transaction (R181). -/
inductive TxnKind
  | read
  | write
deriving DecidableEq, Repr

/-- Reasons of an ACCESS_DENIED record that names a window (R4). MISALIGNED names none (R10). -/
inductive DenyReason
  | noAccess
  | heldWrite
  | faulted
deriving DecidableEq, Repr

/-- Causes of a BATCH_DISCARDED record (R144). -/
inductive DiscardCause
  | command
  | windowDropped
  | cleared
deriving DecidableEq, Repr

/-- Outcomes of a BATCH_ABORTED record (R104). -/
inductive AbortOutcome
  | restored
  | incomplete
  | restoredOnRetry
deriving DecidableEq, Repr

/-- How a memory access failed (R137). -/
inductive MemFailure
  | error
  | timeout
deriving DecidableEq, Repr

/-- Requesters a MEMORY_ERROR record may name: CP, UP or SL (R137). -/
inductive ErrorRequester
  | cp
  | up
  | sl
deriving DecidableEq, Repr

/-- Scopes of a RESET_DISCARD record (R144). -/
inductive ResetScope
  | updateReset
  | serviceBatches
deriving DecidableEq, Repr

/-- The kind and the kind-specific fields of a report record (R144). -/
inductive RecordBody
  | tap (port : Port) (addr : Word) (data : WriteData)
  | batchDone (window : WIdx) (id : Half) (entries : Nat) (stamp : Option Stamp)
  | batchAborted (window : WIdx) (id : Half) (addr : Word) (step : CommitStep) (rolledBack : Nat) (outcome : AbortOutcome)
  | batchSpoiled (window : WIdx) (id : Half) (cause : SpoilCause)
  | batchDiscarded (window : WIdx) (id : Half) (cause : DiscardCause)
  | epochOverrun (window : WIdx) (stamp : Stamp)
  | closeDeferred (window : WIdx) (stamp : Stamp)
  | accessDenied (port : Port) (addr : Word) (kind : TxnKind) (window : WIdx) (reason : DenyReason)
  | misaligned (port : Port) (addr : Word) (kind : TxnKind)
  | memoryError (requester : ErrorRequester) (addr : Word) (failure : MemFailure)
  | flywheel (number : Half)
  | windowFaulted (window : WIdx) (id : Half) (residue : Nat)
  | resetDiscard (scope : ResetScope) (batches : Nat)
  | reportsLost (count : Half)
deriving DecidableEq, Repr

/-- A record in the report queue, with the fields set at its acceptance (R143). -/
structure Record where
  seq : Half
  time : Word
  body : RecordBody
deriving DecidableEq, Repr

/-- The Report Unit (R142). -/
structure ReportUnit where
  queue : List Record
  nextSeq : Half
  lost : Half
  time : Word
  watermark : Byte
  idleTime : Byte
  idleElapsed : Nat
  idleRunOut : Bool
  attn : Bool
deriving DecidableEq, Repr

/-! ### Service Link Unit (chapter 10) -/

/-- Result codes of commands (R170). -/
inductive Result
  | ok
  | badFrame
  | badCommand
  | badArgument
  | overlap
  | inUse
  | noWindow
  | notHeld
  | faulted
  | notFaulted
  | empty
  | full
  | spoiled
  | late
  | none
  | memoryError
deriving DecidableEq, Repr

/-- The command slot (R166). -/
inductive Slot
  | idle
  | working (tag code : Byte) (payload : List Byte)
  | ready (tag : Byte) (result : Result) (payload : List Byte)
deriving DecidableEq, Repr

/-- How far a link transaction's frame is decided: its frame kind byte is still to come; it holds nothing more to decide (a request
decided or dropped, or an ignored frame); or it is a collect shifting out a response frame, whole if its presence is READY
(R159, R162 to R165). -/
inductive LinkPhase
  | kindPending
  | frameEnded
  | collecting (frame : List Byte) (presenceReady : Bool)
deriving DecidableEq, Repr

/-- A link transaction: the link status byte fixed when SSN fell, and its phase (R159). -/
structure LinkTxn where
  status : Byte
  phase : LinkPhase
deriving DecidableEq, Repr

/-- The two views of a probe (R138). -/
inductive ProbeView
  | memory
  | update
deriving DecidableEq, Repr

/-- A probe whose memory access has not ended (R139, R140). -/
structure Probe where
  addr : Word
  view : ProbeView
  decode : Decode
  staged : Quad (Option Byte)
deriving DecidableEq, Repr

/-- The Service Link Unit (R158, R163, R166). -/
structure ServiceUnit where
  slot : Slot
  dropped : Half
  link : Option LinkTxn
  probe : Option Probe
deriving DecidableEq, Repr

/-- Levels of the input lines: the three reset lines and SSN as asserted or not, the epoch lines as high or not. -/
structure Pins where
  resetn : Bool
  urstn : Bool
  crstn : Bool
  ssn : Bool
  epochA : Bool
  epochB : Bool
deriving DecidableEq, Repr

/-- The state of the device, and the queue of commands waiting to be taken (the model's own field), first in, first out. -/
structure State where
  pins : Pins
  windows : Vector Window 16
  store : Store
  upd : UpdateUnit
  cyc : CycleUnit
  epoch : EpochUnit
  engine : Engine
  arb : Arbiter
  rep : ReportUnit
  svc : ServiceUnit
  pending : List Instr
deriving DecidableEq, Repr

/-- Reasons for a step to stop with a fault: none. The spec gives every event an outcome, and FAULT, ERROR, TIMEOUT, FAULTED and
HALTED are answers, outcomes and states of the device that goes on (log 14). -/
inductive Fault
deriving DecidableEq, Repr

/-- Reasons for a step to refuse a command. -/
inductive Refusal
  /-- Raised only by an arm of exec whose command has no meaning yet; there is none. Safe. -/
  | notModelled (mnemonic : String)
deriving DecidableEq, Repr

/-! ### Power-on values -/

/-- Counters all 0 (R9). -/
def WindowCounters.zero : WindowCounters := ⟨0, 0, 0, 0, 0⟩

/-- A FREE place with counters 0 and no batches (R1, R24). -/
def Window.reset : Window := ⟨.free, WindowCounters.zero, none, []⟩

/-- Sixteen FREE places (R1). -/
def resetWindows : Vector Window 16 := Vector.replicate 16 Window.reset

/-- Batch id counter 0, write hold limit 2000 (R45). -/
def Store.reset : Store := ⟨0, Config.writeHoldLimit⟩

/-- IDLE (R46), with no answer given and nothing presented (log 8, log 9). -/
def UpdateUnit.reset : UpdateUnit := ⟨.idle, none, []⟩

/-- IDLE (R117), with no answer given and nothing presented (log 8, log 9). -/
def CycleUnit.reset : CycleUnit := ⟨.idle, none, []⟩

/-- A qualifier's state taken from its line as it stands (R66). -/
def QualifierState.ofLevel (high : Bool) : QualifierState := if high then .high else .low

/-- The Epoch Unit's power-on values, each qualifier's state from its line (R64, R66). -/
def EpochUnit.reset (pins : Pins) : EpochUnit where
  lineA := ⟨.ofLevel pins.epochA, Config.qualifyTime⟩
  lineB := ⟨.ofLevel pins.epochB, Config.qualifyTime⟩
  mode := .off
  active := Config.activePeriod
  pending := none
  count := 0
  epochsA := 0
  epochsB := 0
  epochsTimer := 0
  flywheel := 0

/-- IDLE, gate OPEN, everything else empty (R79, R100). -/
def Engine.reset : Engine := ⟨.idle, .opened, [], none, none, [], none, 0, false⟩

/-- Port FREE, no requests, streak 0, timeout 50 µs (R130). -/
def Arbiter.reset : Arbiter := ⟨none, none, none, none, none, 0, Config.accessTimeout⟩

/-- The Report Unit's power-on values (R142). -/
def ReportUnit.reset : ReportUnit := ⟨[], 0, 0, 0, Config.watermark, Config.idleTime, 0, false, false⟩

/-- Slot IDLE, dropped-request count 0, no transaction in progress (R179). -/
def ServiceUnit.reset : ServiceUnit := ⟨.idle, 0, none, none⟩

/-- The input lines right after reset: no line asserted, SSN high, both epoch lines low (log 7). -/
def Pins.reset : Pins := ⟨false, false, false, false, false, false⟩

/-- Every block at its power-on values, under the given input lines. -/
def State.powerOn (pins : Pins) : State where
  pins := pins
  windows := resetWindows
  store := .reset
  upd := .reset
  cyc := .reset
  epoch := .reset pins
  engine := .reset
  arb := .reset
  rep := .reset
  svc := .reset
  pending := []

/-- The machine right after reset: RESETN has been asserted and deasserted again, with the input lines of log 7. -/
def State.reset : State := .powerOn .reset

end Sys2Proof.Machine
end

