-- ==== Sys2Proof/Machine/Operands.lean ====
section
/-! DEFINITION. Reading operands and writing fields: the codes of R181, window indexes, byte order, and the word address, size and lanes
of a bus transaction (R19, R48). -/

namespace Sys2Proof.Machine

/-! ### Numbers as bytes (R181: most significant byte first) -/

/-- The two bytes of a 16-bit number. -/
def be16 (x : Half) : List Byte := [x.extractLsb' 8 8, x.extractLsb' 0 8]

/-- The four bytes of a 32-bit number. -/
def be32 (x : Word) : List Byte :=
  [x.extractLsb' 24 8, x.extractLsb' 16 8, x.extractLsb' 8 8, x.extractLsb' 0 8]

/-- The 16-bit number of two bytes. -/
def half (hi lo : Byte) : Half := hi ++ lo

/-- The 32-bit number of four bytes. -/
def word (b3 b2 b1 b0 : Byte) : Word := b3 ++ b2 ++ b1 ++ b0

/-- A one-byte number (R181). -/
def num8 (n : Nat) : Byte := BitVec.ofNat 8 n

/-- A yes-or-no field, or a flag: 00H or 01H (R181). -/
def flagByte (b : Bool) : Byte := if b then 0x01 else 0x00

/-- A window index as a byte. -/
def indexByte (w : WIdx) : Byte := num8 w.val

/-- A set of lanes: bit i is 1 when lane i is in the set (R181). -/
def laneByte (q : Quad Bool) : Byte :=
  (if q.l0 then 0x01 else 0x00) ||| (if q.l1 then 0x02 else 0x00) ||| (if q.l2 then 0x04 else 0x00) |||
    (if q.l3 then 0x08 else 0x00)

/-! ### Codes of enumerated values (R181) -/

/-- Class codes. -/
def WindowClass.code : WindowClass → Byte
  | .pass => 0x00
  | .held _ => 0x01

/-- Access codes. -/
def Access.code : Access → Byte
  | .none => 0x00
  | .readOnly => 0x01
  | .readWrite => 0x02

/-- The access a code names. -/
def Access.ofCode (c : Byte) : Option Access :=
  if c = 0x00 then some .none else if c = 0x01 then some .readOnly else if c = 0x02 then some .readWrite else none

/-- Tap codes. -/
def Tap.code : Tap → Byte
  | .off => 0x00
  | .updateWrites => 0x01
  | .allWrites => 0x02

/-- The tap a code names. -/
def Tap.ofCode (c : Byte) : Option Tap :=
  if c = 0x00 then some .off else if c = 0x01 then some .updateWrites else if c = 0x02 then some .allWrites else none

/-- The setting a yes-or-no code names (R181). -/
def boolOfCode (c : Byte) : Option Bool := if c = 0x00 then some false else if c = 0x01 then some true else none

/-- Epoch source codes of the three sources that give epochs. -/
def EpochSource.code : EpochSource → Byte
  | .lineA => 0x01
  | .lineB => 0x02
  | .timer => 0x03

/-- Epoch source codes. -/
def WindowSource.code : WindowSource → Byte
  | .epoch e => e.code
  | .immediate => 0x04

/-- The epoch source a code names. -/
def WindowSource.ofCode (c : Byte) : Option WindowSource :=
  if c = 0x01 then some (.epoch .lineA) else if c = 0x02 then some (.epoch .lineB)
  else if c = 0x03 then some (.epoch .timer) else if c = 0x04 then some .immediate else none

/-- Close mode codes. -/
def CloseMode.code : CloseMode → Byte
  | .onClosingWrite => 0x00
  | .onEpoch => 0x01

/-- The close mode a code names. -/
def CloseMode.ofCode (c : Byte) : Option CloseMode :=
  if c = 0x00 then some .onClosingWrite else if c = 0x01 then some .onEpoch else none

/-- Batch state codes of the waiting list states. -/
def BatchState.code : BatchState → Byte
  | .closed => 0x03
  | .queued => 0x04
  | .committing => 0x05
  | .rollingBack => 0x06

/-- Close cause codes. -/
def CloseCause.code : CloseCause → Byte
  | .closingWrite => 0x01
  | .closeCommand => 0x02
  | .epoch => 0x03

/-- Spoil cause codes. -/
def SpoilCause.code : SpoilCause → Byte
  | .batchLimit => 0x01
  | .storeFull => 0x02
  | .holdExpired => 0x03
  | .closeHoldExpired => 0x04

/-- Discard cause codes. -/
def DiscardCause.code : DiscardCause → Byte
  | .command => 0x01
  | .windowDropped => 0x02
  | .cleared => 0x03

/-- Codes of what a held write waits for. -/
def WaitsFor.code : WaitsFor → Byte
  | .stagingEntry => 0x01
  | .listRoom => 0x02

/-- Failing step codes. -/
def CommitStep.code : CommitStep → Byte
  | .readOld => 0x01
  | .writeNew => 0x02

/-- Abort outcome codes. -/
def AbortOutcome.code : AbortOutcome → Byte
  | .restored => 0x01
  | .incomplete => 0x02
  | .restoredOnRetry => 0x03

/-- Port codes. -/
def Port.code : Port → Byte
  | .update => 0x01
  | .cycle => 0x02

/-- Transaction kind codes. -/
def TxnKind.code : TxnKind → Byte
  | .read => 0x01
  | .write => 0x02

/-- Denial reason codes; MISALIGNED is 04H. -/
def DenyReason.code : DenyReason → Byte
  | .noAccess => 0x01
  | .heldWrite => 0x02
  | .faulted => 0x03

/-- Requester codes. -/
def ErrorRequester.code : ErrorRequester → Byte
  | .cp => 0x01
  | .up => 0x02
  | .sl => 0x03

/-- Memory outcome codes. -/
def MemFailure.code : MemFailure → Byte
  | .error => 0x01
  | .timeout => 0x02

/-- Reset scope codes of RESET_DISCARD. -/
def ResetScope.code : ResetScope → Byte
  | .updateReset => 0x01
  | .serviceBatches => 0x02

/-- Gate codes. -/
def Gate.code : Gate → Byte
  | .opened => 0x00
  | .held => 0x01

/-- Engine state codes. -/
def EngineState.code : EngineState → Byte
  | .idle => 0x00
  | .committing => 0x01
  | .rollingBack => 0x02
  | .halted => 0x03

/-- Timer mode codes. -/
def TimerMode.code : TimerMode → Byte
  | .off => 0x00
  | .free => 0x01
  | .syncA => 0x02

/-- The timer mode a code names. -/
def TimerMode.ofCode (c : Byte) : Option TimerMode :=
  if c = 0x00 then some .off else if c = 0x01 then some .free else if c = 0x02 then some .syncA else none

/-- Probe view codes. -/
def ProbeView.code : ProbeView → Byte
  | .memory => 0x01
  | .update => 0x02

/-- Result codes (R181). -/
def Result.code : Result → Byte
  | .ok => 0x01
  | .badFrame => 0x02
  | .badCommand => 0x03
  | .badArgument => 0x04
  | .overlap => 0x05
  | .inUse => 0x06
  | .noWindow => 0x07
  | .notHeld => 0x09
  | .faulted => 0x0A
  | .notFaulted => 0x0B
  | .empty => 0x0C
  | .full => 0x0D
  | .spoiled => 0x0E
  | .late => 0x0F
  | .none => 0x10
  | .memoryError => 0x11

/-! ### Window indexes -/

/-- The window a byte names, 0..15 (R12, R14, R17, R36, R37, R111). -/
def windowIndex (b : Byte) : Option WIdx := if h : b.toNat < 16 then some ⟨b.toNat, h⟩ else none

/-- The sixteen window indexes in ascending order (R73). -/
def allWindows : List WIdx := [0, 1, 2, 3, 4, 5, 6, 7, 8, 9, 10, 11, 12, 13, 14, 15]

/-! ### Bus transactions -/

/-- A size in bytes (R19). -/
def sizeBytes : Size → Nat
  | .one => 1
  | .two => 2
  | .four => 4

/-- The bytes of a write in address order. -/
def dataBytes : WriteData → List Byte
  | .one b0 => [b0]
  | .two b0 b1 => [b0, b1]
  | .four b0 b1 b2 b3 => [b0, b1, b2, b3]

/-- The size of a write. -/
def dataSize : WriteData → Size
  | .one _ => .one
  | .two _ _ => .two
  | .four _ _ _ _ => .four

/-- The address of a transaction. -/
def reqAddr : BusRequest → Word
  | .read a _ => a
  | .write a _ => a

/-- The size of a transaction. -/
def reqSize : BusRequest → Size
  | .read _ s => s
  | .write _ d => dataSize d

/-- The kind of a transaction. -/
def reqKind : BusRequest → TxnKind
  | .read _ _ => .read
  | .write _ _ => .write

/-- A transaction is aligned when its address is a multiple of its size (R10, R48, R118). -/
def reqAligned (r : BusRequest) : Bool := (reqAddr r).toNat % sizeBytes (reqSize r) == 0

/-- The word address of a byte address: its two lowest bits cleared (R19, R53, R123). -/
def wordAddr (a : Word) : Word := a &&& 0xFFFFFFFC#32

/-- The lane of a byte address within its word (R18). -/
def laneOf (a : Word) : Nat := a.toNat % 4

/-- The byte at a lane; lanes above 3 do not occur. -/
def laneAt {α : Type} (q : Quad α) (i : Nat) : α :=
  match i with
  | 0 => q.l0
  | 1 => q.l1
  | 2 => q.l2
  | _ => q.l3

/-- The lanes of a write and the byte each receives (R19). -/
def writeLanes (a : Word) : WriteData → Quad (Option Byte)
  | .four b0 b1 b2 b3 => ⟨some b0, some b1, some b2, some b3⟩
  | .two b0 b1 => if laneOf a < 2 then ⟨some b0, some b1, none, none⟩ else ⟨none, none, some b0, some b1⟩
  | .one b0 =>
    match laneOf a with
    | 0 => ⟨some b0, none, none, none⟩
    | 1 => ⟨none, some b0, none, none⟩
    | 2 => ⟨none, none, some b0, none⟩
    | _ => ⟨none, none, none, some b0⟩

/-- The lanes of a word that a read of this address and size asks for, in address order, out of a word's four lanes. -/
def readLanes {α : Type} (a : Word) (size : Size) (q : Quad α) : List α :=
  (List.range (sizeBytes size)).map fun i => laneAt q (laneOf a + i)

/-- Staged bytes over memory's bytes, one by one in address order (R42). -/
def mergeBytes (staged : List (Option Byte)) (memory : List Byte) : List Byte :=
  List.zipWith (fun s m => s.getD m) staged memory

/-- A write of a whole word (R86, R101). -/
def quadData (q : Quad Byte) : WriteData := .four q.l0 q.l1 q.l2 q.l3

end Sys2Proof.Machine
end

