-- ==== Sys2Proof/Machine/Flags.lean ====
section
/-! DEFINITION. Computed status: saturating counters, the ATTN reasons and the line (R155), the link status byte (R182), the CRC-8 (R161,
R183), and the conditions under which an event is due. -/

namespace Sys2Proof.Machine

/-- One more, staying at 65535 (R9, R70, R147, R163). -/
def satInc (x : Half) : Half := if x = 0xFFFF then x else x + 1

/-! ### ATTN (R155) -/

/-- Reason DEPTH: the queue holds at least watermark records. -/
def State.reasonDepth (s : State) : Bool := decide (s.rep.watermark.toNat ≤ s.rep.queue.length)

/-- Reason IDLE: a record waits and the idle timer has run out. -/
def State.reasonIdle (s : State) : Bool := !s.rep.queue.isEmpty && s.rep.idleRunOut

/-- Reason HALTED: the Commit Engine is HALTED. -/
def State.reasonHalted (s : State) : Bool := s.engine.state == .halted

/-- Reason RESPONSE: the command slot is READY. -/
def State.reasonResponse (s : State) : Bool :=
  match s.svc.slot with
  | .ready _ _ _ => true
  | _ => false

/-- What the ATTN line is to be: asserted while a reason holds, deasserted while RESETN is asserted. -/
def State.attnLevel (s : State) : Bool :=
  !s.pins.resetn && (s.reasonDepth || s.reasonIdle || s.reasonHalted || s.reasonResponse)

/-- ATTN judged anew. -/
def State.judgeAttn (s : State) : State := { s with rep := { s.rep with attn := s.attnLevel } }

/-! ### Link status byte and CRC-8 -/

/-- The slot's state in bits 7 and 6 of the link status byte (R182). -/
def Slot.statusBits : Slot → Byte
  | .idle => 0x00
  | .working _ _ _ => 0x40
  | .ready _ _ _ => 0x80

/-- The link status byte as it is fixed at the fall of SSN (R159, R182). -/
def State.statusByte (s : State) : Byte :=
  s.svc.slot.statusBits ||| 0x20 ||| (if s.reasonDepth then 0x08 else 0x00) ||| (if s.reasonIdle then 0x04 else 0x00) |||
    (if s.reasonHalted then 0x02 else 0x00) ||| (if s.reasonResponse then 0x01 else 0x00)

/-- The link status byte showed the slot IDLE (R163, R182). -/
def showedIdle (status : Byte) : Bool := status &&& 0xC0 == 0x00

/-- One shift of the CRC-8 register (R183, step 3). -/
def crcShift (r : Byte) : Byte := if r.msb then (r <<< 1) ^^^ 0x07 else r <<< 1

/-- One byte taken into the CRC-8 register (R183, steps 2 and 3). -/
def crcByte (r b : Byte) : Byte :=
  crcShift (crcShift (crcShift (crcShift (crcShift (crcShift (crcShift (crcShift (r ^^^ b))))))))

/-- The CRC-8 of a list of bytes, the register starting at FFH (R161, R183). -/
def crc8 (bytes : List Byte) : Byte := bytes.foldl crcByte 0xFF

/-! ### Entries in use, idle windows -/

/-- The entries of an open batch; a SPOILED one has none (R18, R31). -/
def openEntries : Option OpenBatch → List Entry
  | some (.gathering _ es) => es
  | some (.spoiled _ _) => []
  | none => []

/-- Staging entries one window's batches hold. -/
def Window.inUse (w : Window) : Nat := (openEntries w.openBatch).length + (w.waiting.map (·.entries.length)).sum

/-- Staging entries in use in the whole store (R18, R40). -/
def State.inUse (s : State) : Nat := (s.windows.toList.map Window.inUse).sum

/-- A window is idle when no batch in its waiting list is QUEUED, COMMITTING or ROLLING_BACK (R75). -/
def Window.idle (w : Window) : Bool := w.waiting.all (·.state == .closed)

/-- The waiting list has room (R24). -/
def Window.hasRoom (w : Window) : Bool := decide (w.waiting.length < Config.waitingPlaces)

/-- Some batch in the device is CLOSED, QUEUED, COMMITTING or ROLLING_BACK, and will free its entries (R28). -/
def State.someWillFree (s : State) : Bool := s.windows.toList.any fun w => !w.waiting.isEmpty

/-! ### Conditions of the device's own events -/

/-- The held write's wait has been met by a freeing: an entry is free, or its window's waiting list has room (R29, R34). -/
def State.reconsiderDue (s : State) : Bool :=
  match s.upd.state with
  | .held _ .stagingEntry _ => decide (s.inUse < Config.stagingEntries)
  | .held x .listRoom _ => s.windows[x.window].hasRoom
  | _ => false

/-- A pending full reset completes once the engine is IDLE or HALTED (R97, R177). -/
def State.fullResetDue (s : State) : Bool :=
  s.engine.fullReset && (s.engine.state == .idle || s.engine.state == .halted)

/-- A commit start is due (R84). -/
def State.commitDue (s : State) : Bool :=
  s.engine.state == .idle && s.engine.gate == .opened && !s.engine.fullReset && !s.engine.queue.isEmpty

/-- Some request waits at the arbiter. -/
def Arbiter.someWaits (a : Arbiter) : Bool := a.cp.isSome || a.ce.isSome || a.up.isSome || a.sl.isSome

/-- A grant is due: the port is FREE and a request waits (R132). -/
def State.grantDue (s : State) : Bool := s.arb.port.isNone && s.arb.someWaits

/-- The Update Port Unit can take a request (R47). -/
def State.updateReady (s : State) : Bool := s.upd.state == .idle && !s.pins.urstn && !s.pins.resetn

/-- The Cycle Port Unit can take a request (R118). -/
def State.cycleReady (s : State) : Bool := s.cyc.state == .idle && !s.pins.crstn && !s.pins.resetn

/-- A request waits on the update port's handshake and can be taken now (R47). -/
def State.updateTakeDue (s : State) : Bool := s.updateReady && !s.upd.waiting.isEmpty

/-- A request waits on the cycle port's handshake and can be taken now (R118). -/
def State.cycleTakeDue (s : State) : Bool := s.cycleReady && !s.cyc.waiting.isEmpty

/-- Something is owed to an event already taken: a reconsideration, a completion, or the taking of a request that waits (R29, R34, R47,
R97, R118; log 1). -/
def State.owes (s : State) : Bool := s.reconsiderDue || s.fullResetDue || s.updateTakeDue || s.cycleTakeDue

/-- The access on the port, if any, has used up its timeout (R134). -/
def State.timeoutDue (s : State) : Bool :=
  match s.arb.port with
  | some p => decide (p.timeout.toNat ≤ p.elapsed)
  | none => false

/-- The held write, if any, has used up its hold limit (R35). -/
def State.holdDue (s : State) : Bool :=
  match s.upd.state with
  | .held _ _ t => decide (t.limit.toNat ≤ t.elapsed)
  | _ => false

/-- A QUALIFYING line has stayed high for its qualify time (R65). -/
def Qualifier.due (q : Qualifier) : Bool :=
  match q.state with
  | .qualifying time elapsed => decide (time.toNat ≤ elapsed)
  | _ => false

/-- The timer count has reached the active period (R68, R70). -/
def EpochUnit.periodDue (e : EpochUnit) : Bool := e.mode != .off && decide (e.active.toNat ≤ e.count.toNat)

/-- The idle timer's whole time, in µs (R153). -/
def ReportUnit.idleLimit (r : ReportUnit) : Nat := r.idleTime.toNat * Config.idleUnit

/-- The idle timer has used up its time and has not run out yet (R153). -/
def ReportUnit.idleDue (r : ReportUnit) : Bool := !r.idleRunOut && decide (r.idleLimit ≤ r.idleElapsed)

end Sys2Proof.Machine
end

