-- ==== Sys2Proof/Machine/Formats.lean ====
section
/-! DEFINITION. The bytes of response payloads (R185), report records (R186) and response frames (R164, R182). -/

namespace Sys2Proof.Machine

/-! ### Report records (R186) -/

/-- The bytes of an optional queueing stamp in a BATCH_DONE record: IMMEDIATE and epoch number 0000H where it is absent. -/
def doneStampBytes : Option Stamp → List Byte
  | some st => st.source.code :: be16 st.number
  | none => 0x04 :: be16 0

/-- The kind code of a record. -/
def RecordBody.kind : RecordBody → Byte
  | .tap _ _ _ => 0x01
  | .batchDone _ _ _ _ => 0x02
  | .batchAborted _ _ _ _ _ _ => 0x03
  | .batchSpoiled _ _ _ => 0x04
  | .batchDiscarded _ _ _ => 0x05
  | .epochOverrun _ _ => 0x06
  | .closeDeferred _ _ => 0x07
  | .accessDenied _ _ _ _ _ => 0x08
  | .misaligned _ _ _ => 0x08
  | .memoryError _ _ _ => 0x09
  | .flywheel _ => 0x0A
  | .windowFaulted _ _ _ => 0x0B
  | .resetDiscard _ _ => 0x0C
  | .reportsLost _ => 0x0D

/-- The kind-specific part of a record. -/
def RecordBody.bytes : RecordBody → List Byte
  | .tap p a d => [p.code, num8 (sizeBytes (dataSize d))] ++ be32 a ++ dataBytes d
  | .batchDone w id n st => indexByte w :: be16 id ++ [num8 n] ++ doneStampBytes st
  | .batchAborted w id a step n o => indexByte w :: be16 id ++ be32 a ++ [step.code, num8 n, o.code]
  | .batchSpoiled w id c => indexByte w :: be16 id ++ [c.code]
  | .batchDiscarded w id c => indexByte w :: be16 id ++ [c.code]
  | .epochOverrun w st => [indexByte w, st.source.code] ++ be16 st.number
  | .closeDeferred w st => [indexByte w, st.source.code] ++ be16 st.number
  | .accessDenied p a k w r => [p.code, k.code, r.code, indexByte w] ++ be32 a
  | .misaligned p a k => [p.code, k.code, 0x04, 0xFF] ++ be32 a
  | .memoryError r a f => [r.code, f.code] ++ be32 a
  | .flywheel n => be16 n
  | .windowFaulted w id n => indexByte w :: be16 id ++ [num8 n]
  | .resetDiscard sc n => [sc.code, num8 n]
  | .reportsLost n => be16 n

/-- A record as REPORTS_TAKE returns it: header, then the kind-specific part. -/
def Record.bytes (r : Record) : List Byte :=
  [r.body.kind, num8 (8 + r.body.bytes.length)] ++ be16 r.seq ++ be32 r.time ++ r.body.bytes

/-! ### Response payloads (R185) -/

/-- IDENT (R171). -/
def identPayload : List Byte :=
  be16 Config.vendorCode ++ be16 Config.partCode ++ [Config.revision, 16] ++
    be16 (BitVec.ofNat 16 Config.stagingEntries) ++
    [num8 Config.largestBatchLimit, num8 Config.waitingPlaces, num8 Config.commitQueueEntries, num8 Config.undoRecords,
      num8 Config.reportRecords, num8 Config.largestPayload]

/-- Bytes 14 to 21 of a descriptor: those of a PASS window are FFH, FFH and then 00H. -/
def classBytes : WindowClass → List Byte
  | .pass => [0xFF, 0xFF, 0, 0, 0, 0, 0, 0]
  | .held h =>
    [h.source.code, h.closeMode.code, flagByte h.closing.isSome] ++ be32 (h.closing.getD 0) ++ [h.batchLimit]

/-- Bytes 1 to 21 of a descriptor (R184). -/
def Descriptor.bytes (d : Descriptor) : List Byte :=
  be32 d.base ++ be32 d.size ++
    [d.cls.code, d.updateAccess.code, d.cycleAccess.code, d.tap.code, flagByte d.doneReports] ++ classBytes d.cls

/-- The five counters in the order of R17. -/
def WindowCounters.bytes (c : WindowCounters) : List Byte :=
  be16 c.commitsDone ++ be16 c.batchesAborted ++ be16 c.batchesSpoiled ++ be16 c.epochOverruns ++ be16 c.accessesDenied

/-- WINDOW_READ; the status is ACTIVE 01H or FAULTED 02H. -/
def windowReadPayload (w : WIdx) (faulted : Bool) (d : Descriptor) (c : WindowCounters) : List Byte :=
  [indexByte w, if faulted then 0x02 else 0x01] ++ d.bytes ++ c.bytes

/-- The open batch in a BATCH_LIST response: flag, id, state, entry count, spoil cause. -/
def openBatchBytes : Option OpenBatch → List Byte
  | none => [0x00, 0x00, 0x00, 0x00, 0x00, 0xFF]
  | some (.gathering id es) => 0x01 :: be16 id ++ [0x01, num8 es.length, 0xFF]
  | some (.spoiled id c) => 0x01 :: be16 id ++ [0x02, 0x00, c.code]

/-- The held write in a BATCH_LIST response: flag, window, what it waits for. -/
def heldWriteBytes : UpdateState → List Byte
  | .held x f _ => [0x01, indexByte x.window, f.code]
  | _ => [0x00, 0x00, 0x00]

/-- A queueing stamp in a BATCH_LIST response: FFH and 0000H where it is absent. -/
def stampBytes : Option Stamp → List Byte
  | some st => st.source.code :: be16 st.number
  | none => 0xFF :: be16 0

/-- One waiting-list batch in a BATCH_LIST response. -/
def WaitBatch.bytes (b : WaitBatch) : List Byte :=
  be16 b.id ++ [b.state.code, num8 b.entries.length, b.cause.code] ++ stampBytes b.stamp

/-- BATCH_LIST. -/
def batchListPayload (w : WIdx) (win : Window) (inUse : Nat) (upd : UpdateState) : List Byte :=
  indexByte w :: openBatchBytes win.openBatch ++ be16 (BitVec.ofNat 16 inUse) ++ heldWriteBytes upd ++
    num8 win.waiting.length :: win.waiting.flatMap WaitBatch.bytes

/-- One residue record. -/
def UndoRecord.bytes (r : UndoRecord) : List Byte := be32 r.addr ++ r.old.toList ++ [laneByte r.mask]

/-- UNDO_READ: the fault context, the residue count, and up to four records from a start index (R115). -/
def undoReadPayload (c : FaultContext) (undo : List UndoRecord) (start : Byte) : List Byte :=
  let shown := (undo.drop start.toNat).take 4
  indexByte c.window :: be16 c.id ++ be32 c.addr ++ [c.step.code, num8 undo.length, start, num8 shown.length] ++
    shown.flatMap UndoRecord.bytes

/-- The batch in hand in a GATE response: flag, window, id, entry count, entries written. -/
def inHandBytes (hand : Option BatchInHand) (entries : Nat) : List Byte :=
  match hand with
  | some h => [0x01, indexByte h.window] ++ be16 h.id ++ [num8 entries, num8 h.written]
  | none => [0x00, 0x00, 0x00, 0x00, 0x00, 0x00]

/-- GATE (R83). -/
def gatePayload (e : Engine) (entries : Nat) : List Byte :=
  [e.gate.code, e.state.code, flagByte e.fullReset, num8 e.undo.length] ++ inHandBytes e.inHand entries ++
    num8 e.queue.length :: e.queue.flatMap fun q => indexByte q.1 :: be16 q.2

/-- TIMER_SET (R72). -/
def timerPayload (e : EpochUnit) : List Byte :=
  e.mode.code :: be16 e.active ++ flagByte e.pending.isSome :: be16 (e.pending.getD 0) ++
    [e.lineA.time, e.lineB.time] ++ be16 e.count

/-- LIMITS_SET and LIMITS_READ (R173, R174). -/
def limitsPayload (s : State) : List Byte :=
  be16 s.store.writeHoldLimit ++ [s.arb.timeout, s.rep.watermark, s.rep.idleTime]

/-- COUNTERS_READ (R175). -/
def countersPayload (s : State) : List Byte :=
  be16 s.epoch.epochsA ++ be16 s.epoch.epochsB ++ be16 s.epoch.epochsTimer ++ be16 s.epoch.flywheel ++ be16 s.svc.dropped

/-- REPORTS_TAKE: records returned, records left, time counter, the records (R150). -/
def reportsPayload (taken : List Record) (left : Nat) (time : Word) : List Byte :=
  [num8 taken.length, num8 left] ++ be32 time ++ taken.flatMap Record.bytes

/-- Window index and class of a decoded address, FFH and FFH if unmapped (R141, R185). -/
def decodeBytes : Decode → List Byte
  | .unmapped => [0xFF, 0xFF]
  | .pass w _ _ _ => [indexByte w, 0x00]
  | .held w _ _ _ _ => [indexByte w, 0x01]
  | .faulted w => [indexByte w, 0x01]

/-- MEMORY_PROBE, OK (R141). -/
def probePayload (p : Probe) (data : List Byte) : List Byte :=
  be32 p.addr ++ p.view.code :: decodeBytes p.decode ++ data ++ [laneByte (p.staged.map Option.isSome)]

/-- MEMORY_PROBE, MEMORY_ERROR (R141). -/
def probeErrorPayload (p : Probe) (f : MemFailure) : List Byte :=
  be32 p.addr ++ p.view.code :: decodeBytes p.decode ++ [f.code]

/-! ### Frames -/

/-- A frame: its first three bytes, the payload with its length, and the CRC-8 of all of them (R160, R164). -/
def frameBytes (first tag third : Byte) (payload : List Byte) : List Byte :=
  let body := [first, tag, third, num8 payload.length] ++ payload
  body ++ [crc8 body]

/-- The request frame of a command (R160). -/
def requestFrame (tag code : Byte) (payload : List Byte) : List Byte := frameBytes 0xC1 tag code payload

/-- The response frame a collect shifts out (R164, R182). -/
def collectFrame : Slot → List Byte
  | .idle => frameBytes 0x80 0x00 0x00 []
  | .working tag _ _ => frameBytes 0x81 tag 0x00 []
  | .ready tag result payload => frameBytes 0x82 tag result.code payload

/-- The n-th byte, counted from the fall of SSN, that the device shifts out on SDO in the transaction in progress: the link status
byte, then 00H during a request frame, or the response frame and then 00H during a collect (R159). In an ignored transaction, and behind
a request frame's end, the spec names no byte, and 00H is the model's choice (log 22). None while the device does not drive SDO: SSN
high or RESETN asserted (R158, R179), and, by the model's choice, SSN low with no transaction in progress after a reset (log 24). -/
def State.sdoByte (s : State) (n : Nat) : Option Byte :=
  if s.pins.resetn then none
  else match s.svc.link with
  | none => none
  | some t =>
    match n with
    | 0 => some t.status
    | k + 1 =>
      match t.phase with
      | .collecting frame _ => some (frame.getD k 0x00)
      | .kindPending => some 0x00
      | .frameEnded => some 0x00

/-- The n-th bit, counted from the fall of SSN, that the device drives on SDO: bytes go most significant bit first (R158). -/
def State.sdoBit (s : State) (n : Nat) : Option Bool := (s.sdoByte (n / 8)).map fun b => b.getMsbD (n % 8)

/-- The bits sampled on SDI since the fall of SSN as whole bytes, most significant bit first, and the bits of a byte cut short
(R158). -/
def linkBytes : List Bool → List Byte × List Bool
  | b7 :: b6 :: b5 :: b4 :: b3 :: b2 :: b1 :: b0 :: rest =>
    let more := linkBytes rest
    (BitVec.ofBoolListBE [b7, b6, b5, b4, b3, b2, b1, b0] :: more.1, more.2)
  | bits => ([], bits)

end Sys2Proof.Machine
end

