-- ==== Sys2Proof/Machine/Ops.lean ====
section
/-! DEFINITION. The named operations the commands share: windows and their counters, records, batches and the Staging Store's decisions,
requests and answers of the ports, the commit queue, epochs, and the command slot. -/

namespace Sys2Proof.Machine

/-! ### Records (R145 to R147) -/

/-- The Report Unit takes a record handed to it: accepted with the next sequence number and the time, restarting the idle timer
(R146), or dropped and counted when the queue holds 64 (R147). -/
def ReportUnit.take (r : ReportUnit) (b : RecordBody) : ReportUnit :=
  if r.queue.length < Config.reportRecords then
    { r with queue := r.queue ++ [⟨r.nextSeq, r.time, b⟩], nextSeq := r.nextSeq + 1, idleElapsed := 0, idleRunOut := false }
  else { r with lost := satInc r.lost }

/-- A block makes a record (R145). -/
def State.record (b : RecordBody) (s : State) : State := { s with rep := s.rep.take b }

/-! ### Windows -/

/-- One place of the Window Table. -/
def State.win (s : State) (i : WIdx) : Window := s.windows[i]

/-- One place of the Window Table replaced. -/
def State.setWin (i : WIdx) (w : Window) (s : State) : State := { s with windows := s.windows.set i.val w i.isLt }

/-- One place of the Window Table changed by a function. -/
def State.mapWin (i : WIdx) (f : Window → Window) (s : State) : State := s.setWin i (f (s.win i))

/-- The descriptor of an installed window. -/
def Place.desc : Place → Option Descriptor
  | .free => none
  | .active d => some d
  | .faulted d => some d

/-- The HELD-only fields of a window class. -/
def WindowClass.fields : WindowClass → Option HeldFields
  | .pass => none
  | .held h => some h

/-- The HELD-only fields of an ACTIVE HELD window. -/
def Place.activeHeld : Place → Option HeldFields
  | .active d => d.cls.fields
  | .faulted _ => none
  | .free => none

/-- An installed window covers a byte address (R2). -/
def Descriptor.covers (d : Descriptor) (a : Word) : Bool :=
  decide (d.base.toNat ≤ a.toNat) && decide (a.toNat < d.base.toNat + d.size.toNat)

/-- Two windows share an address exactly when each one's base is less than the other's base + size (R12, check 5). -/
def Descriptor.overlaps (d e : Descriptor) : Bool :=
  decide (d.base.toNat < e.base.toNat + e.size.toNat) && decide (e.base.toNat < d.base.toNat + d.size.toNat)

/-- The decode result that an installed window gives (R11). -/
def Place.decodeAs (i : WIdx) : Place → Decode
  | .free => .unmapped
  | .faulted _ => .faulted i
  | .active d =>
    match d.cls with
    | .pass => .pass i d.updateAccess d.cycleAccess d.tap
    | .held h => .held i d.updateAccess d.cycleAccess d.tap h

/-- The place is installed and covers the address. -/
def Place.hits (a : Word) (p : Place) : Bool :=
  match p.desc with
  | some d => d.covers a
  | none => false

/-- An aligned address decoded against the Window Table (R10, R11). At most one window covers it (R13). -/
def State.decodeAddr (s : State) (a : Word) : Decode :=
  match allWindows.find? (fun i => (s.win i).place.hits a) with
  | some i => (s.win i).place.decodeAs i
  | none => .unmapped

/-- The window a HELD decode names. -/
def Decode.heldWindow : Decode → Option WIdx
  | .held w _ _ _ _ => some w
  | .pass _ _ _ _ => none
  | .faulted _ => none
  | .unmapped => none

/-- One of a window's counters incremented (R9). -/
def State.countDone (i : WIdx) (s : State) : State :=
  s.mapWin i fun w => { w with counters := { w.counters with commitsDone := satInc w.counters.commitsDone } }

/-- A batch aborted is counted (R9). -/
def State.countAborted (i : WIdx) (s : State) : State :=
  s.mapWin i fun w => { w with counters := { w.counters with batchesAborted := satInc w.counters.batchesAborted } }

/-- A batch spoiled is counted (R9). -/
def State.countSpoiled (i : WIdx) (s : State) : State :=
  s.mapWin i fun w => { w with counters := { w.counters with batchesSpoiled := satInc w.counters.batchesSpoiled } }

/-- An epoch overrun is counted (R9). -/
def State.countOverrun (i : WIdx) (s : State) : State :=
  s.mapWin i fun w => { w with counters := { w.counters with epochOverruns := satInc w.counters.epochOverruns } }

/-- An access denied is counted (R9). -/
def State.countDenied (i : WIdx) (s : State) : State :=
  s.mapWin i fun w => { w with counters := { w.counters with accessesDenied := satInc w.counters.accessesDenied } }

/-- A refused transaction's record and count (R50, R108, R120). -/
def State.deny (port : Port) (r : BusRequest) (i : WIdx) (reason : DenyReason) (s : State) : State :=
  (s.record (.accessDenied port (reqAddr r) (reqKind r) i reason)).countDenied i

/-! ### Answers and requests of the ports -/

/-- The update port's transaction is answered and the unit is IDLE. -/
def State.answerUpdate (a : Answer) (s : State) : State := { s with upd := { s.upd with state := .idle, answer := some a } }

/-- The cycle port's transaction is answered and the unit is IDLE. -/
def State.answerCycle (a : Answer) (s : State) : State := { s with cyc := { s.cyc with state := .idle, answer := some a } }

/-- The Update Port Unit places its request and enters REQUESTED (R51, R52, R56). -/
def State.placeUpdate (t : UpdateTxn) (s : State) : State :=
  { s with upd := { s.upd with state := .requested t }, arb := { s.arb with up := some t.req } }

/-- The Cycle Port Unit places its request and enters REQUESTED (R121, R124, R126). -/
def State.placeCycle (t : CycleTxn) (s : State) : State :=
  { s with cyc := { s.cyc with state := .requested t }, arb := { s.arb with cp := some t.req } }

/-- The Commit Engine places its request (R85, R87, R101). -/
def State.placeCommit (r : BusRequest) (s : State) : State := { s with arb := { s.arb with ce := some r } }

/-- The write held by the store, if it is one of the given window, is answered FAULT and not staged (R15, R37, R114). -/
def State.faultHeldOf (i : WIdx) (s : State) : State :=
  match s.upd.state with
  | .held x _ _ => if x.window = i then s.answerUpdate .fault else s
  | _ => s

/-- A held write of any window is answered FAULT and not staged (R44, R45). -/
def State.faultHeld (s : State) : State :=
  match s.upd.state with
  | .held _ _ _ => s.answerUpdate .fault
  | _ => s

/-! ### Batches and the commit queue -/

/-- The window's oldest CLOSED batch becomes QUEUED with a stamp, when the window is idle and has one (R75, R92): its id and the
window afterwards. -/
def Window.queueOldest (stamp : Option Stamp) (w : Window) : Option (Half × Window) :=
  if w.idle then
    match w.waiting with
    | b :: rest => some (b.id, { w with waiting := { b with state := .queued, stamp := stamp } :: rest })
    | [] => none
  else none

/-- A batch is queued from a window and its entry joins the commit queue, or nothing (R75, R80, R92). -/
def State.queueFrom (stamp : Option Stamp) (i : WIdx) (s : State) : Option State :=
  match (s.win i).queueOldest stamp with
  | some (id, w) =>
    some { s.setWin i w with engine := { s.engine with queue := s.engine.queue ++ [(i, id)] } }
  | none => none

/-- An ACTIVE window of source IMMEDIATE that is idle has its oldest CLOSED batch queued, with no stamp (R92). -/
def State.queueImmediate (i : WIdx) (s : State) : State :=
  match (s.win i).place.activeHeld with
  | some h => if h.source = .immediate then (s.queueFrom none i).getD s else s
  | none => s

/-- Closing an OPEN batch: it takes the close cause and joins the tail of the waiting list (R32). -/
def Window.close (id : Half) (entries : List Entry) (cause : CloseCause) (w : Window) : Window :=
  { w with openBatch := none, waiting := w.waiting ++ [⟨id, entries, .closed, cause, none⟩] }

/-- A batch of a window closes, and an IMMEDIATE window is queued from at once (R32, R92). -/
def State.closeBatch (i : WIdx) (id : Half) (entries : List Entry) (cause : CloseCause) (s : State) : State :=
  (s.mapWin i (Window.close id entries cause)).queueImmediate i

/-- Opening a batch: an id from the batch id counter and an empty entry list (R22, R26). -/
def State.openNew (i : WIdx) (s : State) : State :=
  { s.mapWin i (fun w => { w with openBatch := some (.gathering s.store.nextId []) }) with
    store := { s.store with nextId := s.store.nextId + 1 } }

/-- The window's open batch slot is filled, by opening a batch when it is empty (R25, R33, R35). -/
def State.ensureOpen (i : WIdx) (s : State) : State :=
  match (s.win i).openBatch with
  | some _ => s
  | none => s.openNew i

/-- An OPEN batch becomes SPOILED: its entries are freed, the record is made and the window counts it (R27, R28, R35). -/
def State.spoil (i : WIdx) (id : Half) (cause : SpoilCause) (s : State) : State :=
  ((s.mapWin i fun w => { w with openBatch := some (.spoiled id cause) }).record (.batchSpoiled i id cause)).countSpoiled i

/-- The open batch leaves its slot, as DISCARDED or SPOILED-closed; its entries are freed (R23). -/
def State.emptySlot (i : WIdx) (s : State) : State := s.mapWin i fun w => { w with openBatch := none }

/-- The id of an open batch. -/
def OpenBatch.id : OpenBatch → Half
  | .gathering id _ => id
  | .spoiled id _ => id

/-- The open batch of a window, if any, is discarded with a record (R15, R37, R114). -/
def State.discardOpen (i : WIdx) (cause : DiscardCause) (s : State) : State :=
  match (s.win i).openBatch with
  | some b => (s.emptySlot i).record (.batchDiscarded i b.id cause)
  | none => s

/-- The CLOSED batches of a window, oldest first. -/
def Window.closedBatches (w : Window) : List WaitBatch := w.waiting.filter (·.state == .closed)

/-- Each CLOSED batch of a window is discarded, oldest first, with a record for each (R15, R38, R114). -/
def State.discardClosed (i : WIdx) (cause : DiscardCause) (s : State) : State :=
  (s.win i).closedBatches.foldl (fun t b => t.record (.batchDiscarded i b.id cause))
    (s.mapWin i fun w => { w with waiting := w.waiting.filter (·.state != .closed) })

/-- Batches of a window that its discard takes: the open one and the CLOSED ones. -/
def Window.discardable (w : Window) : Nat := (if w.openBatch.isSome then 1 else 0) + w.closedBatches.length

/-- The window's QUEUED batch, if any. -/
def Window.queuedBatch (w : Window) : Option WaitBatch := w.waiting.find? (·.state == .queued)

/-- A window's QUEUED batch leaves as DISCARDED: its entry leaves the commit queue, its entries are freed, and a record is made
(R39, R113). -/
def State.discardQueued (i : WIdx) (cause : DiscardCause) (s : State) : State :=
  match (s.win i).queuedBatch with
  | some b =>
    let s := s.mapWin i fun w => { w with waiting := w.waiting.eraseP (·.state == .queued) }
    ({ s with engine := { s.engine with queue := s.engine.queue.filter (·.1 != i) } }).record (.batchDiscarded i b.id cause)
  | none => s

/-- The COMMITTING or ROLLING_BACK batch of a window. -/
def Window.batchAtWork (w : Window) : Option WaitBatch :=
  w.waiting.find? fun b => b.state == .committing || b.state == .rollingBack

/-- The state of every batch of a window in one state becomes another. -/
def Window.restate (old new : BatchState) (w : Window) : Window :=
  { w with waiting := w.waiting.map fun b => if b.state = old then { b with state := new } else b }

/-- The COMMITTING or ROLLING_BACK batch leaves its window's waiting list (R23). -/
def State.leaveAtWork (i : WIdx) (s : State) : State :=
  s.mapWin i fun w => { w with waiting := w.waiting.eraseP fun b => b.state == .committing || b.state == .rollingBack }

/-! ### The Staging Store's decision on a write -/

/-- Staged lanes over an older entry's lanes: a lane of the write replaces the byte, and the mask becomes the union (R20). -/
def overlay (new old : Quad (Option Byte)) : Quad (Option Byte) := Quad.zipWith (fun n o => n <|> o) new old

/-- An entry list holds an entry for a word. -/
def hasWord (a : Word) (es : List Entry) : Bool := es.any (·.addr == a)

/-- A write coalesces into the entry of its word, which keeps its place (R20). -/
def coalesce (a : Word) (lanes : Quad (Option Byte)) (es : List Entry) : List Entry :=
  es.map fun e => if e.addr = a then { e with lanes := overlay lanes e.lanes } else e

/-- What the store decides of a write (R25, R33, R54). -/
inductive Verdict
  | accept (entries : List Entry)
  | refuse
  | endSpoiled
  | spoil (cause : SpoilCause)
  | hold (waitsFor : WaitsFor)
deriving DecidableEq, Repr

/-- A new entry is needed and the store is full: held while some batch will free its entries, otherwise spoiled, with the cause that
fits a write taken now (R28) or one reconsidered (R29). -/
def fullVerdict (reconsidered : Bool) (limit : Half) (willFree : Bool) : Verdict :=
  if reconsidered then (if willFree then .hold .stagingEntry else .spoil .holdExpired)
  else if willFree && limit != 0 then .hold .stagingEntry else .spoil .storeFull

/-- Steps 3 to 6 of R25, on the entry list of an OPEN batch. -/
def stageVerdict (s : State) (reconsidered : Bool) (x : StagedWrite) (entries : List Entry) : Verdict :=
  let a := wordAddr x.addr
  let lanes := writeLanes x.addr x.data
  if hasWord a entries then .accept (coalesce a lanes entries)
  else if x.fields.batchLimit.toNat ≤ entries.length then .spoil .batchLimit
  else if Config.stagingEntries ≤ s.inUse then fullVerdict reconsidered s.store.writeHoldLimit s.someWillFree
  else .accept (entries ++ [⟨a, lanes⟩])

/-- The write is a closing write: its word address is the window's closing address (R7, R25). -/
def StagedWrite.closing (x : StagedWrite) : Bool := x.fields.closing == some (wordAddr x.addr)

/-- The store's decision on a write whose window's open batch slot has been filled (R25, R33). A closing write that finds the
waiting list full waits for room, or with a hold limit of 0 is decided at once as its expiry (R30, R34). -/
def verdict (s : State) (reconsidered : Bool) (x : StagedWrite) : Verdict :=
  match (s.win x.window).openBatch with
  | none => .refuse
  | some (.spoiled _ _) => if x.closing then .endSpoiled else .refuse
  | some (.gathering _ entries) =>
    if x.closing && !(s.win x.window).hasRoom then
      if !reconsidered && s.store.writeHoldLimit == 0 then .spoil .closeHoldExpired else .hold .listRoom
    else stageVerdict s reconsidered x entries

/-- The id of a window's open batch (0 for an empty slot, which the decision has filled before). -/
def State.openId (i : WIdx) (s : State) : Half :=
  match (s.win i).openBatch with
  | some b => b.id
  | none => 0

/-- A staged write is accepted: the batch takes its new entry list, a closing write closes it, the write is answered DONE and tapped
(R33, R54, R55). -/
def State.acceptWrite (x : StagedWrite) (entries : List Entry) (s : State) : State :=
  let id := s.openId x.window
  let s := s.mapWin x.window fun w => { w with openBatch := some (.gathering id entries) }
  let s := if x.closing then s.closeBatch x.window id entries .closingWrite else s
  let s := s.answerUpdate (.done [])
  if x.tap = .off then s else s.record (.tap .update x.addr x.data)

/-- A staged write is handed to the store and its decision is carried out (R25, R33, R54). The timer is that of a write that is
already held, or none for a write taken now (R29). -/
def State.stageWrite (x : StagedWrite) (timer : Option HoldTimer) (s : State) : State :=
  let s := s.ensureOpen x.window
  match verdict s timer.isSome x with
  | .accept entries => s.acceptWrite x entries
  | .refuse => s.answerUpdate .fault
  | .endSpoiled => (s.emptySlot x.window).answerUpdate .fault
  | .spoil cause => (s.spoil x.window (s.openId x.window) cause).answerUpdate .fault
  | .hold waitsFor =>
    { s with upd := { s.upd with state := .held x waitsFor (timer.getD ⟨s.store.writeHoldLimit, 0⟩) } }

/-- The spoil cause of a hold's expiry (R35). -/
def WaitsFor.expiryCause : WaitsFor → SpoilCause
  | .stagingEntry => .holdExpired
  | .listRoom => .closeHoldExpired

/-- The hold timer of a held write runs out: the open batch, opened first if there is none, spoils, and the write is answered FAULT
(R35). A batch that is SPOILED already keeps its cause (R31; log 12). -/
def State.expireHold (x : StagedWrite) (f : WaitsFor) (s : State) : State :=
  let s := s.ensureOpen x.window
  match (s.win x.window).openBatch with
  | some (.gathering id _) => (s.spoil x.window id f.expiryCause).answerUpdate .fault
  | _ => s.answerUpdate .fault

/-- The store reconsiders the held write after a freeing (R29, R34). -/
def State.reconsider (s : State) : State :=
  match s.upd.state with
  | .held x _ timer => s.stageWrite x (some timer)
  | _ => s

/-! ### The update view (R41) -/

/-- The entry lists of a window in the order of the search: the open batch, then the waiting list from newest to oldest. -/
def Window.viewOrder (w : Window) : List (List Entry) := openEntries w.openBatch :: w.waiting.reverse.map (·.entries)

/-- The staged byte that one batch gives for a lane of a word. -/
def entryLane (a : Word) (lane : Nat) (es : List Entry) : Option Byte :=
  match es.find? (·.addr == a) with
  | some e => laneAt e.lanes lane
  | none => none

/-- The newest staged byte of a lane of a word, if some batch covers it. -/
def Window.viewLane (w : Window) (a : Word) (lane : Nat) : Option Byte := w.viewOrder.findSome? (entryLane a lane)

/-- The staged bytes of a word's four lanes. -/
def Window.viewWord (w : Window) (a : Word) : Quad (Option Byte) :=
  ⟨w.viewLane a 0, w.viewLane a 1, w.viewLane a 2, w.viewLane a 3⟩

/-! ### Windows in hand, and the cycle port's held read (R124 to R126) -/

/-- The window the Commit Engine is working on (R124). -/
def State.inHandWindow (s : State) : Option WIdx :=
  match s.engine.state with
  | .committing => s.engine.inHand.map (·.window)
  | .rollingBack =>
    match s.engine.inHand with
    | some h => some h.window
    | none => s.engine.context.map (·.window)
  | .idle => none
  | .halted => none

/-- A window becomes in hand: a cycle read of it that is REQUESTED is withdrawn and held (R125). A read is one of the window when its
decode names the window's index, also where the window was dropped and the index installed anew while the read was under way: the
spec leaves that case open, and this is the model's choice (log 21). -/
def State.holdCycleRead (i : WIdx) (s : State) : State :=
  match s.cyc.state with
  | .requested t =>
    if t.decode.heldWindow = some i then
      { s with cyc := { s.cyc with state := .held t }, arb := { s.arb with cp := none } }
    else s
  | _ => s

/-- The held cycle read of a window is released (R126). -/
def State.releaseCycleRead (i : WIdx) (s : State) : State :=
  match s.cyc.state with
  | .held t => if t.decode.heldWindow = some i then s.placeCycle t else s
  | _ => s

/-- The held cycle read of a window is answered FAULT (R106, R113, R126). -/
def State.faultCycleRead (i : WIdx) (s : State) : State :=
  match s.cyc.state with
  | .held t => if t.decode.heldWindow = some i then s.answerCycle .fault else s
  | _ => s

/-! ### Epochs (R67, R73 to R76) -/

/-- Step 1 of delivery, in close mode ON_EPOCH (R74). -/
def State.epochClose (st : Stamp) (i : WIdx) (s : State) : State :=
  match (s.win i).openBatch with
  | none => s
  | some (.gathering _ []) => s
  | some (.gathering id (e :: es)) =>
    if (s.win i).hasRoom then s.mapWin i (Window.close id (e :: es) .epoch) else s.record (.closeDeferred i st)
  | some (.spoiled _ _) => s.emptySlot i

/-- Steps 2 to 4 of delivery (R75, R76). -/
def State.epochQueue (st : Stamp) (i : WIdx) (s : State) : State :=
  match s.queueFrom (some st) i with
  | some t => t
  | none =>
    if !(s.win i).idle && !(s.win i).closedBatches.isEmpty then (s.countOverrun i).record (.epochOverrun i st) else s

/-- One epoch delivered to one window, if the window listens to it (R73). -/
def State.deliverTo (st : Stamp) (s : State) (i : WIdx) : State :=
  match (s.win i).place.activeHeld with
  | some h =>
    if h.source = .epoch st.source then
      (if h.closeMode = .onEpoch then s.epochClose st i else s).epochQueue st i
    else s
  | none => s

/-- One epoch delivered to the windows of its source in ascending window index (R73). -/
def State.deliver (st : Stamp) (s : State) : State := allWindows.foldl (State.deliverTo st) s

/-- The epoch counter of a source. -/
def EpochUnit.counter (e : EpochUnit) : EpochSource → Half
  | .lineA => e.epochsA
  | .lineB => e.epochsB
  | .timer => e.epochsTimer

/-- A source's epoch counter incremented. -/
def EpochUnit.bump (e : EpochUnit) : EpochSource → EpochUnit
  | .lineA => { e with epochsA := e.epochsA + 1 }
  | .lineB => { e with epochsB := e.epochsB + 1 }
  | .timer => { e with epochsTimer := e.epochsTimer + 1 }

/-- An epoch of a source: its counter is incremented, the new value is the epoch number, and it is delivered (R67). -/
def State.giveEpoch (src : EpochSource) (s : State) : State :=
  let e := s.epoch.bump src
  State.deliver ⟨src, e.counter src⟩ { s with epoch := e }

/-- A restart of the timer: the count is 0 and a pending period becomes active (R68). -/
def EpochUnit.restart (e : EpochUnit) : EpochUnit :=
  { e with count := 0, active := e.pending.getD e.active, pending := none }

/-- A pulse of a line is accepted: its epoch, and in SYNC_A mode for EPOCHA a restart and then a TIMER epoch (R65, R69). -/
def State.acceptPulse (line : EpochLine) (s : State) : State :=
  match line with
  | .a =>
    let s := s.giveEpoch .lineA
    if s.epoch.mode = .syncA then State.giveEpoch .timer { s with epoch := s.epoch.restart } else s
  | .b => s.giveEpoch .lineB

/-- The qualifier of a line. -/
def EpochUnit.qualifier (e : EpochUnit) : EpochLine → Qualifier
  | .a => e.lineA
  | .b => e.lineB

/-- A line's qualifier takes a state. -/
def State.setQualifier (line : EpochLine) (q : QualifierState) (s : State) : State :=
  match line with
  | .a => { s with epoch := { s.epoch with lineA := { s.epoch.lineA with state := q } } }
  | .b => { s with epoch := { s.epoch with lineB := { s.epoch.lineB with state := q } } }

/-- The level of an epoch line. -/
def Pins.level (p : Pins) : EpochLine → Bool
  | .a => p.epochA
  | .b => p.epochB

/-- An epoch line takes a level. -/
def State.setLevel (line : EpochLine) (high : Bool) (s : State) : State :=
  match line with
  | .a => { s with pins := { s.pins with epochA := high } }
  | .b => { s with pins := { s.pins with epochB := high } }

/-! ### The command slot (R166, R167) -/

/-- The command in the slot has its response ready (R167). -/
def State.reply (r : Result) (payload : List Byte) (s : State) : State :=
  match s.svc.slot with
  | .working tag _ _ => { s with svc := { s.svc with slot := .ready tag r payload } }
  | _ => s

/-- A refusal: nothing but the slot changes, and the payload is empty (R170, R185). -/
def State.refuse (r : Result) (s : State) : State := s.reply r []

/-- A request is dropped and counted (R163). -/
def State.dropRequest (s : State) : State := { s with svc := { s.svc with dropped := satInc s.svc.dropped } }

/-- A link transaction whose frame kind is still to come has its one frame decided (R159). -/
def State.endFrame (s : State) : State :=
  match s.svc.link with
  | some t =>
    match t.phase with
    | .kindPending => { s with svc := { s.svc with link := some { t with phase := .frameEnded } } }
    | _ => s
  | none => s

/-- A command is taken into the slot and carried out (R162, R167, R168). In slot state WORKING or READY the request is dropped
and counted (R163). Whether the slot is busy is judged by the slot as it stands. A service-command row is judged so whatever link
transaction is open, also in one whose frame is decided already (a collect in progress, or a frame that has ended), as if a transaction
of its own had carried it: one transaction carries one frame (R159), so the spec has no such request, and this is the model's choice
(log 5). -/
def State.takeRequest (tag code : Byte) (payload : List Byte) (op : State → State) (s : State) : State :=
  let s := s.endFrame
  match s.svc.slot with
  | .idle => op { s with svc := { s.svc with slot := .working tag code payload } }
  | _ => s.dropRequest

/-! ### The update-side discard (R43, R44) -/

/-- A waiting-list batch that the update-side discard keeps. -/
def WaitBatch.kept (b : WaitBatch) : Bool := b.state == .committing || b.state == .rollingBack

/-- Batches of a window that the update-side discard takes. -/
def Window.resetCount (w : Window) : Nat :=
  (if w.openBatch.isSome then 1 else 0) + (w.waiting.filter fun b => !b.kept).length

/-- A window after the update-side discard. -/
def Window.resetDiscard (w : Window) : Window := { w with openBatch := none, waiting := w.waiting.filter WaitBatch.kept }

/-- Batches of the whole device that the update-side discard takes, 0..80. -/
def State.resetCount (s : State) : Nat := (s.windows.toList.map Window.resetCount).sum

/-- Every batch that is OPEN, SPOILED, CLOSED or QUEUED is discarded without a record of its own, the commit queue is emptied, and
one RESET_DISCARD record is made (R43, R44, R96). -/
def State.discardAll (scope : ResetScope) (s : State) : State :=
  let n := s.resetCount
  let s := allWindows.foldl (fun t i => t.mapWin i Window.resetDiscard) s
  ({ s with engine := { s.engine with queue := [] } }).record (.resetDiscard scope n)

/-! ### Completion of a full reset (R178) -/

/-- Every block takes the values its chapter gives for the completion of PART_RESET FULL, and the slot becomes READY with the
command's response. Port transactions and memory accesses under way go on (R62, R128, R130). -/
def State.completeReset (waited : Bool) (s : State) : State :=
  let atCompletion := s.engine.state
  let s := s.faultHeld
  let s := { s with
    windows := resetWindows
    store := Store.reset
    epoch := EpochUnit.reset s.pins
    engine := Engine.reset
    arb := { s.arb with streak := 0, timeout := Config.accessTimeout }
    rep := { ReportUnit.reset with attn := s.rep.attn }
    svc := { s.svc with dropped := 0 } }
  s.reply .ok [flagByte waited, atCompletion.code]

/-! ### Time (R149) -/

/-- A microsecond count stops at its limit. -/
def runUp (n limit elapsed : Nat) : Nat := if elapsed + n < limit then elapsed + n else max elapsed limit

/-- A held write's timer after n microseconds. -/
def UpdateState.elapse (n : Nat) : UpdateState → UpdateState
  | .held x f t => .held x f { t with elapsed := runUp n t.limit.toNat t.elapsed }
  | .idle => .idle
  | .requested t => .requested t
  | .atMemory t => .atMemory t
  | .draining t => .draining t

/-- A qualifier's timer after n microseconds. -/
def Qualifier.elapse (n : Nat) (q : Qualifier) : Qualifier :=
  match q.state with
  | .qualifying time e => { q with state := .qualifying time (runUp n time.toNat e) }
  | _ => q

/-- The Epoch Unit after n microseconds: the count advances in modes FREE and SYNC_A (R68, R69). -/
def EpochUnit.elapse (n : Nat) (e : EpochUnit) : EpochUnit :=
  { e with
    lineA := e.lineA.elapse n
    lineB := e.lineB.elapse n
    count := if e.mode = .off then e.count else BitVec.ofNat 16 (runUp n e.active.toNat e.count.toNat) }

/-- The access timer after n microseconds (R134). -/
def PortAccess.elapse (n : Nat) (p : PortAccess) : PortAccess :=
  { p with elapsed := runUp n p.timeout.toNat p.elapsed }

/-- The Report Unit after n microseconds: the time counter and the idle timer (R149, R153). -/
def ReportUnit.elapse (n : Nat) (r : ReportUnit) : ReportUnit :=
  { r with
    time := r.time + BitVec.ofNat 32 n
    idleElapsed := if r.idleRunOut then r.idleElapsed else runUp n r.idleLimit r.idleElapsed }

/-- n microseconds of the device's time base pass. A timer that reaches its limit stands there until its event is taken. While
RESETN is asserted nothing counts (R64, R142). -/
def State.elapse (n : Nat) (s : State) : State :=
  if s.pins.resetn then s
  else { s with
    upd := { s.upd with state := s.upd.state.elapse n }
    epoch := s.epoch.elapse n
    arb := { s.arb with port := s.arb.port.map (PortAccess.elapse n) }
    rep := s.rep.elapse n }

end Sys2Proof.Machine
end

