-- ==== Sys2Proof/Machine/Transactions.lean ====
section
/-! DEFINITION. What the Update Port Unit and the Cycle Port Unit do with a request: waiting on the handshake, taking, refusal, and the
pass-through, staged, forwarding and held paths (chapters 3 and 7). -/

namespace Sys2Proof.Machine

/-! ### Update port -/

/-- A request that the port cannot take yet waits on the handshake, behind any that wait already (R47, R61; log 8). -/
def State.presentUpdate (r : BusRequest) (s : State) : State := { s with upd := { s.upd with waiting := s.upd.waiting ++ [r] } }

/-- A misaligned transaction of the update port (R10, R48). -/
def State.misalignedUpdate (r : BusRequest) (s : State) : State :=
  (s.record (.misaligned .update (reqAddr r) (reqKind r))).answerUpdate .fault

/-- A refused transaction of the update port (R50, R108). -/
def State.refuseUpdate (r : BusRequest) (i : WIdx) (reason : DenyReason) (s : State) : State :=
  (s.deny .update r i reason).answerUpdate .fault

/-- A pass-through access of the update port (R51, R52). -/
def State.passUpdate (r : BusRequest) (d : Decode) (s : State) : State :=
  s.placeUpdate ⟨r, d, List.replicate (sizeBytes (reqSize r)) none⟩

/-- A forwarding read: answered at once when every lane is covered, and otherwise placed at the arbiter with the staged bytes found
(R42, R56). -/
def State.forwardRead (r : BusRequest) (d : Decode) (i : WIdx) (s : State) : State :=
  let staged := readLanes (reqAddr r) (reqSize r) ((s.win i).viewWord (wordAddr (reqAddr r)))
  if staged.all Option.isSome then s.answerUpdate (.done (staged.map fun b => b.getD 0))
  else s.placeUpdate ⟨r, d, staged⟩

/-- An aligned transaction of the update port is dispatched on its decode and kind (R49). -/
def State.dispatchUpdate (r : BusRequest) (d : Decode) (s : State) : State :=
  match d with
  | .unmapped => s.passUpdate r d
  | .faulted i => s.refuseUpdate r i .faulted
  | .pass i access _ _ =>
    match access, r with
    | .readWrite, _ => s.passUpdate r d
    | .readOnly, .read _ _ => s.passUpdate r d
    | .readOnly, .write _ _ => s.refuseUpdate r i .noAccess
    | .none, _ => s.refuseUpdate r i .noAccess
  | .held i access _ tap fields =>
    match access, r with
    | .readWrite, .read _ _ => s.forwardRead r d i
    | .readOnly, .read _ _ => s.forwardRead r d i
    | .readWrite, .write a data => s.stageWrite ⟨a, data, i, tap, fields⟩ none
    | .readOnly, .write _ _ => s.refuseUpdate r i .noAccess
    | .none, _ => s.refuseUpdate r i .noAccess

/-- The update port takes a transaction: alignment first, then one decode, then dispatch (R47 to R49). -/
def State.takeUpdate (r : BusRequest) (s : State) : State :=
  let s := { s with upd := { s.upd with answer := none } }
  if reqAligned r then s.dispatchUpdate r (s.decodeAddr (reqAddr r)) else s.misalignedUpdate r

/-- Requests that wait on the update port's handshake are taken, one after another, as long as the unit is ready (R47). -/
def State.takeUpdates : List BusRequest → State → State
  | [], s => s
  | r :: rest, s =>
    if s.updateReady then State.takeUpdates rest (State.takeUpdate r { s with upd := { s.upd with waiting := rest } }) else s

/-- A request presented on the update port is taken, or waits (R47). -/
def State.requestUpdate (r : BusRequest) (s : State) : State :=
  if s.updateReady then s.takeUpdate r else s.presentUpdate r

/-! ### Cycle port -/

/-- A request that the port cannot take yet waits on the handshake, behind any that wait already (R118, R127; log 8). -/
def State.presentCycle (r : BusRequest) (s : State) : State := { s with cyc := { s.cyc with waiting := s.cyc.waiting ++ [r] } }

/-- A misaligned transaction of the cycle port (R118). -/
def State.misalignedCycle (r : BusRequest) (s : State) : State :=
  (s.record (.misaligned .cycle (reqAddr r) (reqKind r))).answerCycle .fault

/-- A refused transaction of the cycle port (R108, R120). -/
def State.refuseCycle (r : BusRequest) (i : WIdx) (reason : DenyReason) (s : State) : State :=
  (s.deny .cycle r i reason).answerCycle .fault

/-- A read of a HELD window: held while the window is in hand, and otherwise placed at the arbiter (R124). -/
def State.readHeldWindow (r : BusRequest) (d : Decode) (i : WIdx) (s : State) : State :=
  if s.inHandWindow = some i then { s with cyc := { s.cyc with state := .held ⟨r, d⟩ } } else s.placeCycle ⟨r, d⟩

/-- An aligned transaction of the cycle port is dispatched on its decode and kind (R119). -/
def State.dispatchCycle (r : BusRequest) (d : Decode) (s : State) : State :=
  match d with
  | .unmapped => s.placeCycle ⟨r, d⟩
  | .faulted i => s.refuseCycle r i .faulted
  | .pass i _ access _ =>
    match access, r with
    | .readWrite, _ => s.placeCycle ⟨r, d⟩
    | .readOnly, .read _ _ => s.placeCycle ⟨r, d⟩
    | .readOnly, .write _ _ => s.refuseCycle r i .noAccess
    | .none, _ => s.refuseCycle r i .noAccess
  | .held i _ access _ _ =>
    match access, r with
    | _, .write _ _ => s.refuseCycle r i .heldWrite
    | .none, .read _ _ => s.refuseCycle r i .noAccess
    | .readOnly, .read _ _ => s.readHeldWindow r d i
    | .readWrite, .read _ _ => s.readHeldWindow r d i

/-- The cycle port takes a transaction: alignment first, then one decode, then dispatch (R118, R119). -/
def State.takeCycle (r : BusRequest) (s : State) : State :=
  let s := { s with cyc := { s.cyc with answer := none } }
  if reqAligned r then s.dispatchCycle r (s.decodeAddr (reqAddr r)) else s.misalignedCycle r

/-- Requests that wait on the cycle port's handshake are taken, one after another, as long as the unit is ready (R118). -/
def State.takeCycles : List BusRequest → State → State
  | [], s => s
  | r :: rest, s =>
    if s.cycleReady then State.takeCycles rest (State.takeCycle r { s with cyc := { s.cyc with waiting := rest } }) else s

/-- A request presented on the cycle port is taken, or waits (R118). -/
def State.requestCycle (r : BusRequest) (s : State) : State :=
  if s.cycleReady then s.takeCycle r else s.presentCycle r

end Sys2Proof.Machine
end

