-- ==== Sys2Proof/Machine/Events.lean ====
section
/-! DEFINITION. The frame of every event: what is owed to the events before it comes first, and ATTN is judged after it (log 1). -/

namespace Sys2Proof.Machine

/-- What a freeing and the engine's last act owe: a held write is reconsidered at the freeing that its wait calls for (R29, R34), and
then a pending full reset completes (R97, R177; log 10). -/
def State.settleWork (s : State) : State :=
  let s := if s.reconsiderDue then s.reconsider else s
  if s.fullResetDue then s.completeReset true else s

/-- The requests that wait on a handshake are taken as soon as their port can take them, those of the update port first (R47, R118;
log 2). -/
def State.takeWaiting (s : State) : State :=
  let s := s.takeUpdates s.upd.waiting
  s.takeCycles s.cyc.waiting

/-- What is owed to the events already taken comes before the next one (log 1). -/
def State.settle (s : State) : State := s.settleWork.takeWaiting

/-- An event that the device takes while RESETN is deasserted: what is still owed to the events before it, then its own effect, then
ATTN judged anew (R155). While RESETN is asserted it has no effect. -/
def event (f : State → State) (s : State) : Host.Outcome State Fault Refusal :=
  if s.pins.resetn then .next s else .next (f s.settle).judgeAttn

end Sys2Proof.Machine
end

