-- ==== Sys2Proof/Machine/Commit.lean ====
section
/-! DEFINITION. The Commit Engine and the Memory Port Arbiter: commit starts, the steps of a commit, rollback and its failure, the grant, and
the end of an access with what each requester does with it (chapters 5, 6 and 8). -/

namespace Sys2Proof.Machine

/-! ### A commit (R84 to R92) -/

/-- Bytes of an entry over the word's old bytes: the data of a write-new access (R86). -/
def newWord (lanes : Quad (Option Byte)) (old : Quad Byte) : Quad Byte := Quad.zipWith (fun n o => n.getD o) lanes old

/-- The read-old access of an entry is placed (R85, R86). -/
def State.placeReadOld (e : Entry) (s : State) : State := s.placeCommit (.read e.addr .four)

/-- The entry list of the batch in hand. -/
def State.handEntries (s : State) : List Entry :=
  match s.engine.inHand with
  | some h =>
    match (s.win h.window).batchAtWork with
    | some b => b.entries
    | none => []
  | none => []

/-- A commit start is taken, if it is due: the head entry leaves the queue, its batch is COMMITTING, cycle reads of its window are
held, and the read-old access of entry 0 is placed (R84, R85). -/
def State.startCommit (s : State) : State :=
  if s.commitDue then
    match s.engine.queue with
    | (i, id) :: rest =>
      match (s.win i).queuedBatch with
      | some b =>
        match b.entries with
        | e :: _ =>
          let s := s.mapWin i (Window.restate .queued .committing)
          let s := { s with engine := { s.engine with
            state := .committing, queue := rest, inHand := some ⟨i, id, 0⟩, cursor := some ⟨0, .readOld⟩ } }
          (s.holdCycleRead i).placeReadOld e
        | [] => s
      | none => s
    | [] => s
  else s

/-- The engine is IDLE, with nothing of a commit or a rollback left (R90, R103, R113, R114). -/
def Engine.quiet (e : Engine) : Engine :=
  { e with state := .idle, inHand := none, cursor := none, undo := [], context := none, resumedWrites := 0 }

/-- Done reports of a window are ON (R5). -/
def Place.reportsDone (p : Place) : Bool :=
  match p.desc with
  | some d => d.doneReports
  | none => false

/-- The commit completes (R90, R91). -/
def State.completeCommit (h : BatchInHand) (b : WaitBatch) (s : State) : State :=
  let s := { s.leaveAtWork h.window with engine := { s.engine with inHand := none, cursor := none, undo := [] } }
  let s := s.countDone h.window
  let s := if (s.win h.window).place.reportsDone then s.record (.batchDone h.window h.id b.entries.length b.stamp) else s
  let s := s.releaseCycleRead h.window
  let s := { s with engine := s.engine.quiet }
  s.queueImmediate h.window

/-- The read-old access of the current entry has ended DONE (R87). -/
def State.readOldDone (e : Entry) (c : Cursor) (old : Quad Byte) (s : State) : State :=
  State.placeCommit (.write e.addr (quadData (newWord e.lanes old)))
    { s with engine := { s.engine with
      undo := s.engine.undo ++ [⟨e.addr, old, e.lanes.map Option.isSome⟩], cursor := some { c with step := .writeNew } } }

/-- The write-new access of the current entry has ended DONE (R87). -/
def State.writeNewDone (h : BatchInHand) (b : WaitBatch) (c : Cursor) (s : State) : State :=
  let h := { h with written := h.written + 1 }
  match b.entries[c.index + 1]? with
  | some e =>
    State.placeReadOld e
      { s with engine := { s.engine with inHand := some h, cursor := some ⟨c.index + 1, .readOld⟩ } }
  | none => State.completeCommit h b { s with engine := { s.engine with inHand := some h } }

/-! ### Rollback (R100 to R106, R113) -/

/-- The rollback completes: R103 with a batch in hand, R113 for a resumed one. -/
def State.completeRollback (s : State) : State :=
  match s.engine.context with
  | none => s
  | some c =>
    match s.engine.inHand with
    | some h =>
      let s := { s.leaveAtWork h.window with engine := { s.engine with inHand := none } }
      let s := s.countAborted h.window
      let s := s.record (.batchAborted c.window c.id c.addr c.step c.rolledBack .restored)
      let s := s.releaseCycleRead h.window
      let s := { s with engine := s.engine.quiet }
      s.queueImmediate h.window
    | none =>
      let n := s.engine.resumedWrites
      let s := s.record (.batchAborted c.window c.id c.addr c.step c.rolledBack .restoredOnRetry)
      let s := s.releaseCycleRead c.window
      let s := { s with engine := s.engine.quiet }
      s.reply .ok [num8 n]

/-- The rollback write of the record at the tail of the undo log is placed, or, with the log empty, the rollback completes (R101,
R102). -/
def State.continueRollback (s : State) : State :=
  match s.engine.undo.getLast? with
  | some r => s.placeCommit (.write r.addr (quadData r.old))
  | none => s.completeRollback

/-- A commit access has ended ERROR or TIMEOUT: the batch and the engine are ROLLING_BACK, the fault context is set, and the
rollback begins (R88, R100). -/
def State.failCommit (h : BatchInHand) (e : Entry) (c : Cursor) (s : State) : State :=
  let s := s.mapWin h.window (Window.restate .committing .rollingBack)
  State.continueRollback { s with engine := { s.engine with
    state := .rollingBack, cursor := none, context := some ⟨h.window, h.id, e.addr, c.step, 0⟩ } }

/-- A rollback write has ended DONE: its record leaves the log and is counted (R102). -/
def State.rollbackWriteDone (s : State) : State :=
  State.continueRollback { s with engine := { s.engine with
    undo := s.engine.undo.dropLast
    context := s.engine.context.map fun c => { c with rolledBack := c.rolledBack + 1 }
    resumedWrites := if s.engine.inHand.isNone then s.engine.resumedWrites + 1 else s.engine.resumedWrites } }

/-- An ACTIVE place becomes FAULTED (R8). -/
def Place.toFaulted : Place → Place
  | .active d => .faulted d
  | .faulted d => .faulted d
  | .free => .free

/-- A FAULTED place becomes ACTIVE (R8). -/
def Place.toActive : Place → Place
  | .faulted d => .active d
  | .active d => .active d
  | .free => .free

/-- A window becomes FAULTED and the engine HALTED, keeping the residue and the fault context (R106, R107, R113). -/
def State.halt (i : WIdx) (s : State) : State :=
  let s := s.mapWin i fun w => { w with place := w.place.toFaulted }
  { s with engine := { s.engine with state := .halted, inHand := none, cursor := none } }

/-- A rollback write has ended ERROR or TIMEOUT: R106 with a batch in hand, R113 for a resumed rollback. -/
def State.failRollback (s : State) : State :=
  match s.engine.context with
  | none => s
  | some c =>
    let residue := s.engine.undo.length
    match s.engine.inHand with
    | some h =>
      let s := s.leaveAtWork h.window
      let s := s.countAborted h.window
      let s := s.record (.batchAborted c.window c.id c.addr c.step c.rolledBack .incomplete)
      let s := s.halt h.window
      let s := s.record (.windowFaulted c.window c.id residue)
      s.faultCycleRead h.window
    | none =>
      let s := s.discardQueued c.window .cleared
      let s := s.halt c.window
      let s := s.record (.windowFaulted c.window c.id residue)
      let s := s.faultCycleRead c.window
      s.reply .memoryError [num8 residue]

/-! ### The end of an access (R129, R134, R136) -/

/-- How an access ends. -/
inductive AccessEnd
  | done (data : Quad Byte)
  | failed (how : MemFailure)
deriving DecidableEq, Repr

/-- The outcome of an access is handed to the Commit Engine (R87, R88, R102, R106). -/
def State.endCommitAccess (o : AccessEnd) (s : State) : State :=
  match s.engine.state with
  | .committing =>
    match s.engine.inHand, s.engine.cursor with
    | some h, some c =>
      match (s.win h.window).batchAtWork with
      | some b =>
        match b.entries[c.index]? with
        | some e =>
          match o, c.step with
          | .done old, .readOld => s.readOldDone e c old
          | .done _, .writeNew => s.writeNewDone h b c
          | .failed _, _ => s.failCommit h e c
        | none => s
      | none => s
    | _, _ => s
  | .rollingBack =>
    match o with
    | .done _ => s.rollbackWriteDone
    | .failed _ => s.failRollback
  | .idle => s
  | .halted => s

/-- The bytes memory returned for a read, in address order (R129). -/
def readBytes (size : Size) (data : Quad Byte) : List Byte := data.toList.take (sizeBytes size)

/-- A failed access of a port unit, answered or drained, makes a MEMORY_ERROR record (R53, R61, R123, R127, R137). -/
def State.recordFailure (who : ErrorRequester) (r : BusRequest) (how : MemFailure) (s : State) : State :=
  s.record (.memoryError who (wordAddr (reqAddr r)) how)

/-- A pass-through write of the update port is tapped as its decode's tap says (R52, R55). -/
def Decode.tapsUpdate : Decode → Bool
  | .pass _ _ _ tap => tap != .off
  | .unmapped => false
  | .held _ _ _ _ _ => false
  | .faulted _ => false

/-- A pass-through write of the cycle port is tapped only with ALL_WRITES (R122). -/
def Decode.tapsCycle : Decode → Bool
  | .pass _ _ _ tap => tap == .allWrites
  | .unmapped => false
  | .held _ _ _ _ _ => false
  | .faulted _ => false

/-- The outcome of an access is handed to the Update Port Unit (R51 to R53, R56, R61). -/
def State.endUpdateAccess (o : AccessEnd) (s : State) : State :=
  match s.upd.state with
  | .atMemory t =>
    match o with
    | .failed how => (s.recordFailure .up t.req how).answerUpdate .fault
    | .done data =>
      match t.req with
      | .read _ size => s.answerUpdate (.done (mergeBytes t.staged (readBytes size data)))
      | .write a d =>
        let s := s.answerUpdate (.done [])
        if t.decode.tapsUpdate then s.record (.tap .update a d) else s
  | .draining t =>
    let s := match o with
      | .failed how => s.recordFailure .up t.req how
      | .done _ => s
    { s with upd := { s.upd with state := .idle } }
  | .idle => s
  | .requested _ => s
  | .held _ _ _ => s

/-- The outcome of an access is handed to the Cycle Port Unit; a read whose window is in hand is held instead of answered with data
(R121, R123, R125, R127). Windows are compared by index alone, also where the index was installed anew meanwhile (log 21). -/
def State.endCycleAccess (o : AccessEnd) (s : State) : State :=
  match s.cyc.state with
  | .atMemory t =>
    match o with
    | .failed how => (s.recordFailure .cp t.req how).answerCycle .fault
    | .done data =>
      match t.req with
      | .read _ size =>
        if t.decode.heldWindow.isSome && t.decode.heldWindow == s.inHandWindow then
          { s with cyc := { s.cyc with state := .held t } }
        else s.answerCycle (.done (readBytes size data))
      | .write a d =>
        let s := s.answerCycle (.done [])
        if t.decode.tapsCycle then s.record (.tap .cycle a d) else s
  | .draining t =>
    let s := match o with
      | .failed how => s.recordFailure .cp t.req how
      | .done _ => s
    { s with cyc := { s.cyc with state := .idle } }
  | .idle => s
  | .requested _ => s
  | .held _ => s

/-- The outcome of an access is handed to the Service Link Unit's probe (R141). -/
def State.endProbe (o : AccessEnd) (s : State) : State :=
  match s.svc.probe with
  | some p =>
    let s := { s with svc := { s.svc with probe := none } }
    match o with
    | .done data => s.reply .ok (probePayload p (mergeBytes p.staged.toList data.toList))
    | .failed how => (s.record (.memoryError .sl p.addr how)).reply .memoryError (probeErrorPayload p how)
  | none => s

/-- The access on the port ends, the port is FREE, and the outcome is handed to the requester it was granted to (R136). With the
port FREE there is no access to end. -/
def State.endAccess (o : AccessEnd) (s : State) : State :=
  match s.arb.port with
  | none => s
  | some p =>
    let s := { s with arb := { s.arb with port := none } }
    match p.owner with
    | .cp => s.endCycleAccess o
    | .ce => s.endCommitAccess o
    | .up => s.endUpdateAccess o
    | .sl => s.endProbe o

/-! ### The grant (R132, R133) -/

/-- The highest of CE, UP, SL that waits. -/
def Arbiter.highestOther (a : Arbiter) : Option (Requester × BusRequest) :=
  match a.ce with
  | some r => some (.ce, r)
  | none =>
    match a.up with
    | some r => some (.up, r)
    | none =>
      match a.sl with
      | some r => some (.sl, r)
      | none => none

/-- The request a grant chooses, and the streak after it (R133). -/
def Arbiter.choose (a : Arbiter) : Option (Requester × BusRequest × Nat) :=
  match a.cp, a.highestOther with
  | some r, none => some (.cp, r, 0)
  | some r, some (who, q) =>
    if a.streak < Config.streakLimit then some (.cp, r, a.streak + 1) else some (who, q, 0)
  | none, some (who, q) => some (who, q, 0)
  | none, none => none

/-- A requester's waiting request is removed. -/
def Arbiter.clear (a : Arbiter) : Requester → Arbiter
  | .cp => { a with cp := none }
  | .ce => { a with ce := none }
  | .up => { a with up := none }
  | .sl => { a with sl := none }

/-- The Cycle Port Unit and the Update Port Unit see the grant and enter AT_MEMORY (R132). -/
def State.seeGrant (who : Requester) (s : State) : State :=
  match who with
  | .cp =>
    match s.cyc.state with
    | .requested t => { s with cyc := { s.cyc with state := .atMemory t } }
    | _ => s
  | .up =>
    match s.upd.state with
    | .requested t => { s with upd := { s.upd with state := .atMemory t } }
    | _ => s
  | .ce => s
  | .sl => s

/-- A grant is taken: the port is BUSY with the chosen access and its timeout starts (R132, R134). A grant that finds the port BUSY
or nothing waiting grants nothing. -/
def State.grantNext (s : State) : State :=
  match s.arb.port, s.arb.choose with
  | none, some (who, r, streak) =>
    State.seeGrant who
      { s with arb := { s.arb.clear who with port := some ⟨r, who, s.arb.timeout, 0⟩, streak := streak } }
  | _, _ => s

/-! ### Meanings -/

/-- COMMIT_START (R84, R85). -/
def execCommitStart (s : State) : Host.Outcome State Fault Refusal := event State.startCommit s

/-- GRANT (R132, R133). -/
def execGrant (s : State) : Host.Outcome State Fault Refusal := event State.grantNext s

/-- How memory's answer ends the access. -/
def answerEnd : MemAnswer → AccessEnd
  | .done data => .done data
  | .error => .failed .error

/-- MEMORY_ANSWER (R136). -/
def execMemoryAnswer (ans : MemAnswer) (s : State) : Host.Outcome State Fault Refusal :=
  event (State.endAccess (answerEnd ans)) s

/-- The access timer of the access on the port runs out, after the time it still lacks (R134; log 3). -/
def State.timeOut (s : State) : State :=
  match s.arb.port with
  | some p => (s.elapse (p.timeout.toNat - p.elapsed)).endAccess (.failed .timeout)
  | none => s

/-- ACCESS_TIMEOUT (R134). -/
def execAccessTimeout (s : State) : Host.Outcome State Fault Refusal := event State.timeOut s

/-- LATE_ANSWER: it is ignored, whatever the answer (R134). -/
def execLateAnswer (_ans : MemAnswer) (s : State) : Host.Outcome State Fault Refusal := .next s

end Sys2Proof.Machine
end

