-- ==== Sys2Proof/Machine/Epochs.lean ====
section
/-! DEFINITION. The epoch lines and the period timer (chapter 4), and the idle timer of the Report Unit (R153). -/

namespace Sys2Proof.Machine

/-- A line takes a level while RESETN is asserted: the qualifier follows the line and accepts no pulse (R64, R66). -/
def State.lineInReset (line : EpochLine) (high : Bool) (s : State) : State :=
  (s.setLevel line high).setQualifier line (.ofLevel high)

/-- A rising edge of a line (R65). A line that is high already has no rising edge (log 4). -/
def State.lineRises (line : EpochLine) (s : State) : State :=
  if s.pins.level line then s
  else
    let q := (s.epoch.qualifier line).time
    let s := s.setLevel line true
    if q = 0 then (s.setQualifier line .high).acceptPulse line else s.setQualifier line (.qualifying q 0)

/-- QUALIFY_START (R65). -/
def execQualifyStart (line : EpochLine) (s : State) : Host.Outcome State Fault Refusal :=
  if s.pins.resetn then .next (s.lineInReset line true) else event (State.lineRises line) s

/-- A pulse whose line has stayed high for the whole qualify time, its acceptance not taken yet, is accepted (R65). -/
def State.acceptDue (line : EpochLine) (s : State) : State :=
  if (s.epoch.qualifier line).due then (s.setQualifier line .high).acceptPulse line else s

/-- A falling edge of a line: a pulse of fewer microseconds than the qualify time is dropped, one of at least as many is accepted first,
and from HIGH nothing more happens (R65). A line that is low already has no falling edge (log 4). -/
def State.lineFalls (line : EpochLine) (s : State) : State :=
  if s.pins.level line then ((s.acceptDue line).setLevel line false).setQualifier line .low else s

/-- PULSE_DROPPED (R65). -/
def execPulseDropped (line : EpochLine) (s : State) : Host.Outcome State Fault Refusal :=
  if s.pins.resetn then .next (s.lineInReset line false) else event (State.lineFalls line) s

/-- The line has stayed high for the qualify time of a QUALIFYING line, after the time it still lacks (R65; log 3). -/
def State.lineQualifies (line : EpochLine) (s : State) : State :=
  match (s.epoch.qualifier line).state with
  | .qualifying time elapsed =>
    ((s.elapse (time.toNat - elapsed)).setQualifier line .high).acceptPulse line
  | _ => s

/-- PULSE_ACCEPTED (R65, R67, R69). -/
def execPulseAccepted (line : EpochLine) (s : State) : Host.Outcome State Fault Refusal :=
  event (State.lineQualifies line) s

/-- A TIMER epoch at the end of a period, after a restart of the count (R68). -/
def State.timerEpoch (s : State) : State := State.giveEpoch .timer { s with epoch := s.epoch.restart }

/-- A flywheel epoch: a TIMER epoch with a FLYWHEEL record and one more in the flywheel count (R70). -/
def State.flywheelEpoch (s : State) : State :=
  let s := s.timerEpoch
  let s := s.record (.flywheel s.epoch.epochsTimer)
  { s with epoch := { s.epoch with flywheel := satInc s.epoch.flywheel } }

/-- The count reaches the active period, after the time it still lacks (R68, R70; log 3). In mode OFF no period ends. -/
def State.periodEnds (s : State) : State :=
  match s.epoch.mode with
  | .off => s
  | .free => (s.elapse (s.epoch.active.toNat - s.epoch.count.toNat)).timerEpoch
  | .syncA => (s.elapse (s.epoch.active.toNat - s.epoch.count.toNat)).flywheelEpoch

/-- PERIOD_END (R68, R70). -/
def execPeriodEnd (s : State) : Host.Outcome State Fault Refusal := event State.periodEnds s

/-- The idle timer runs out, after the time it still lacks (R153; log 3). A timer that has run out stays so. -/
def State.idleRunsOut (s : State) : State :=
  if s.rep.idleRunOut then s
  else
    let s := s.elapse (s.rep.idleLimit - s.rep.idleElapsed)
    { s with rep := { s.rep with idleRunOut := true } }

/-- IDLE_TIMER_RUN_OUT (R153). -/
def execIdleTimerRunOut (s : State) : Host.Outcome State Fault Refusal := event State.idleRunsOut s

end Sys2Proof.Machine
end

