-- ==== Sys2Proof/Machine/Batches.lean ====
section
/-! DEFINITION. The batch commands: BATCH_CLOSE, BATCH_DISCARD and BATCH_LIST (R36 to R40). -/

namespace Sys2Proof.Machine

/-- The class of an installed place is HELD. -/
def Descriptor.isHeld (d : Descriptor) : Bool := d.cls.fields.isSome

/-- The four checks of the batch commands, in order, and then the command's act on the window (R36, R37). -/
def State.onActiveHeld (index : Byte) (act : WIdx → State → State) (s : State) : State :=
  match windowIndex index with
  | none => s.refuse .badArgument
  | some i =>
    match (s.win i).place with
    | .free => s.refuse .noWindow
    | .faulted d => if d.isHeld then s.refuse .faulted else s.refuse .notHeld
    | .active d => if d.isHeld then act i s else s.refuse .notHeld

/-- BATCH_CLOSE on the window's open batch (R36). -/
def State.closeOpen (i : WIdx) (s : State) : State :=
  match (s.win i).openBatch with
  | none => s.refuse .empty
  | some (.gathering _ []) => s.refuse .empty
  | some (.spoiled _ _) => (s.emptySlot i).reply .spoiled []
  | some (.gathering id (e :: es)) =>
    if (s.win i).hasRoom then
      (s.closeBatch i id (e :: es) .closeCommand).reply .ok (be16 id ++ [num8 (es.length + 1)])
    else s.refuse .full

/-- BATCH_CLOSE (R36). -/
def execBatchClose (tag index : Byte) (s : State) : Host.Outcome State Fault Refusal :=
  event (State.takeRequest tag 0x20 [index] (State.onActiveHeld index State.closeOpen)) s

/-- BATCH_DISCARD with target OPEN: the window's held write is answered FAULT and the open batch is discarded; with no open batch
nothing changes (R37; log 11). The entries that this frees admit no write of this window, but a write held for another window is
reconsidered as at any freeing (R29), which is the model's choice (log 23). -/
def State.discardTargetOpen (i : WIdx) (s : State) : State :=
  match (s.win i).openBatch with
  | none => s.refuse .none
  | some _ => ((s.faultHeldOf i).discardOpen i .command).reply .ok [0x01]

/-- BATCH_DISCARD_OPEN (R37). -/
def execBatchDiscardOpen (tag index : Byte) (s : State) : Host.Outcome State Fault Refusal :=
  event (State.takeRequest tag 0x21 [index, 0x01] (State.onActiveHeld index State.discardTargetOpen)) s

/-- BATCH_DISCARD with target WAITING (R38). -/
def State.discardTargetWaiting (i : WIdx) (s : State) : State :=
  if (s.win i).closedBatches.isEmpty then s.refuse .none
  else (s.discardClosed i .command).reply .ok [num8 (s.win i).closedBatches.length]

/-- BATCH_DISCARD_WAITING (R38). -/
def execBatchDiscardWaiting (tag index : Byte) (s : State) : Host.Outcome State Fault Refusal :=
  event (State.takeRequest tag 0x21 [index, 0x02] (State.onActiveHeld index State.discardTargetWaiting)) s

/-- BATCH_DISCARD with target QUEUED: the state of the window's oldest waiting-list batch decides (R39). -/
def State.discardTargetQueued (i : WIdx) (s : State) : State :=
  match (s.win i).waiting with
  | [] => s.refuse .none
  | b :: _ =>
    match b.state with
    | .closed => s.refuse .none
    | .committing => s.refuse .late
    | .rollingBack => s.refuse .late
    | .queued => ((s.discardQueued i .command).reply .ok [0x01]).queueImmediate i

/-- BATCH_DISCARD_QUEUED (R39). -/
def execBatchDiscardQueued (tag index : Byte) (s : State) : Host.Outcome State Fault Refusal :=
  event (State.takeRequest tag 0x21 [index, 0x03] (State.onActiveHeld index State.discardTargetQueued)) s

/-- BATCH_LIST, which a FAULTED window does not refuse (R40). -/
def State.batchList (index : Byte) (s : State) : State :=
  match windowIndex index with
  | none => s.refuse .badArgument
  | some i =>
    match (s.win i).place.desc with
    | none => s.refuse .noWindow
    | some d =>
      if d.isHeld then s.reply .ok (batchListPayload i (s.win i) s.inUse s.upd.state) else s.refuse .notHeld

/-- BATCH_LIST (R40). -/
def execBatchList (tag index : Byte) (s : State) : Host.Outcome State Fault Refusal :=
  event (State.takeRequest tag 0x22 [index] (State.batchList index)) s

end Sys2Proof.Machine
end

