-- ==== Sys2Proof/Machine/Probes.lean ====
section
/-! DEFINITION. MEMORY_PROBE in its two views (R138 to R141). -/

namespace Sys2Proof.Machine

/-- No lane taken from staging. -/
def noLanes : Quad (Option Byte) := ⟨none, none, none, none⟩

/-- The 4-byte read of a probe is placed as the SL request; the slot stays WORKING (R139, R140). -/
def State.placeProbe (p : Probe) (s : State) : State :=
  { s with svc := { s.svc with probe := some p }, arb := { s.arb with sl := some (.read p.addr .four) } }

/-- A probe whose four lanes are all staged is answered at once, and any other places its read (R140). -/
def State.probeStaged (p : Probe) (s : State) : State :=
  if p.staged.toList.all Option.isSome then s.reply .ok (probePayload p (p.staged.toList.map fun b => b.getD 0))
  else s.placeProbe p

/-- The staged bytes that a probe uses: those of the update view of an ACTIVE HELD window in view UPDATE, and none otherwise (R139,
R140). -/
def State.probeLanes (view : ProbeView) (addr : Word) (d : Decode) (s : State) : Quad (Option Byte) :=
  match view, d.heldWindow with
  | .update, some i => (s.win i).viewWord addr
  | .update, none => noLanes
  | .memory, _ => noLanes

/-- MEMORY_PROBE, with its two checks in order (R138). -/
def State.memoryProbe (view : ProbeView) (addr : Word) (s : State) : State :=
  if addr.toNat % 4 = 0 then
    match s.decodeAddr addr with
    | .faulted _ => s.refuse .faulted
    | d => s.probeStaged ⟨addr, view, d, s.probeLanes view addr d⟩
  else s.refuse .badArgument

/-- MEMORY_PROBE_MEMORY (R139). -/
def execMemoryProbeMemory (tag : Byte) (addr : Word) (s : State) : Host.Outcome State Fault Refusal :=
  event (State.takeRequest tag 0x70 (be32 addr ++ [0x01]) (State.memoryProbe .memory addr)) s

/-- MEMORY_PROBE_UPDATE (R140). -/
def execMemoryProbeUpdate (tag : Byte) (addr : Word) (s : State) : Host.Outcome State Fault Refusal :=
  event (State.takeRequest tag 0x70 (be32 addr ++ [0x02]) (State.memoryProbe .update addr)) s

end Sys2Proof.Machine
end

