-- ==== Sys2Proof/Machine/Ports.lean ====
section
/-! DEFINITION. The commands of the two upstream ports: a request presented, and the held write's own events (chapters 2, 3 and 7). -/

namespace Sys2Proof.Machine

/-- UPDATE_TRANSACTION_TAKEN (R47). -/
def execUpdateTransactionTaken (r : BusRequest) (s : State) : Host.Outcome State Fault Refusal :=
  if s.pins.resetn then .next (s.presentUpdate r) else event (State.requestUpdate r) s

/-- A held write is reconsidered if a freeing has met its wait. -/
def State.settleWrite (s : State) : State := if s.reconsiderDue then s.reconsider else s

/-- HELD_WRITE_RECONSIDERED (R29, R34); with no write's wait met nothing changes (log 4). -/
def execHeldWriteReconsidered (s : State) : Host.Outcome State Fault Refusal :=
  if s.pins.resetn then .next s else .next s.settleWrite.judgeAttn

/-- The hold timer of the held write runs out, after the time it still lacks (R35; log 3). -/
def State.holdRunsOut (s : State) : State :=
  match s.upd.state with
  | .held x f t => (s.elapse (t.limit.toNat - t.elapsed)).expireHold x f
  | _ => s

/-- WRITE_HOLD_EXPIRED (R35). -/
def execWriteHoldExpired (s : State) : Host.Outcome State Fault Refusal := event State.holdRunsOut s

/-- CYCLE_TRANSACTION_TAKEN (R118). -/
def execCycleTransactionTaken (r : BusRequest) (s : State) : Host.Outcome State Fault Refusal :=
  if s.pins.resetn then .next (s.presentCycle r) else event (State.requestCycle r) s

end Sys2Proof.Machine
end

