-- ==== Sys2Proof/Machine/Resets.lean ====
section
/-! DEFINITION. The three reset lines (R43, R60, R61, R64, R66, R127, R142, R158, R179), and PART_RESET (R176 to R178). -/

namespace Sys2Proof.Machine

/-- POWER_ON_RESET: every block takes its power-on values, and what was in flight is gone without an answer. The input lines stay
where they are, and a request that a master goes on presenting still waits on its handshake; one that could be taken already is among
what was in flight (log 7, log 8). -/
def execPowerOnReset (s : State) : Host.Outcome State Fault Refusal :=
  .next { State.powerOn { s.pins with resetn := true } with
    upd := { UpdateUnit.reset with waiting := s.settle.upd.waiting }
    cyc := { CycleUnit.reset with waiting := s.settle.cyc.waiting }
    pending := s.pending }

/-- RESETN rises: each qualifier takes its state from its line (R66). -/
def State.leaveReset (s : State) : State :=
  { s with
    pins := { s.pins with resetn := false }
    epoch := { s.epoch with
      lineA := { s.epoch.lineA with state := .ofLevel s.pins.epochA }
      lineB := { s.epoch.lineB with state := .ofLevel s.pins.epochB } } }

/-- RESETN_DEASSERTED (R66). A line that is deasserted already has no such edge, and nothing changes (log 4). -/
def execResetnDeasserted (s : State) : Host.Outcome State Fault Refusal :=
  if s.pins.resetn then .next s.leaveReset.judgeAttn else .next s

/-- The Update Port Unit abandons its transaction (R60). -/
def State.abandonUpdate (s : State) : State :=
  match s.upd.state with
  | .idle => s
  | .requested _ => { s with upd := { s.upd with state := .idle }, arb := { s.arb with up := none } }
  | .atMemory t => { s with upd := { s.upd with state := .draining t } }
  | .held _ _ _ => { s with upd := { s.upd with state := .idle } }
  | .draining _ => s

/-- URSTN falls: the unit abandons its transaction and the store discards the update-side batches (R43, R60). A line that is
asserted already has no such edge (R61). -/
def State.updateReset (s : State) : State :=
  if s.pins.urstn then s
  else State.discardAll .updateReset (State.abandonUpdate { s with pins := { s.pins with urstn := true } })

/-- URSTN_ASSERTED (R43, R60). While RESETN is asserted only the line's level is kept. -/
def execUrstnAsserted (s : State) : Host.Outcome State Fault Refusal :=
  if s.pins.resetn then .next { s with pins := { s.pins with urstn := true } } else event State.updateReset s

/-- URSTN rises: the unit takes requests again when it is IDLE (R47, R61). -/
def execUrstnDeasserted (s : State) : Host.Outcome State Fault Refusal :=
  if s.pins.resetn then .next { s with pins := { s.pins with urstn := false } }
  else event (fun t => { t with pins := { t.pins with urstn := false } }) s

/-- The Cycle Port Unit abandons its transaction (R127). -/
def State.abandonCycle (s : State) : State :=
  match s.cyc.state with
  | .idle => s
  | .requested _ => { s with cyc := { s.cyc with state := .idle }, arb := { s.arb with cp := none } }
  | .atMemory t => { s with cyc := { s.cyc with state := .draining t } }
  | .held _ => { s with cyc := { s.cyc with state := .idle } }
  | .draining _ => s

/-- CRSTN falls (R127). A line that is asserted already has no such edge. -/
def State.cycleReset (s : State) : State :=
  if s.pins.crstn then s else State.abandonCycle { s with pins := { s.pins with crstn := true } }

/-- CRSTN_ASSERTED (R127). While RESETN is asserted only the line's level is kept. -/
def execCrstnAsserted (s : State) : Host.Outcome State Fault Refusal :=
  if s.pins.resetn then .next { s with pins := { s.pins with crstn := true } } else event State.cycleReset s

/-- CRSTN rises: the unit takes requests again when it is IDLE (R118, R127). -/
def execCrstnDeasserted (s : State) : Host.Outcome State Fault Refusal :=
  if s.pins.resetn then .next { s with pins := { s.pins with crstn := false } }
  else event (fun t => { t with pins := { t.pins with crstn := false } }) s

/-- FULL_RESET_COMPLETE: a pending full reset completes once the engine is IDLE or HALTED, after a held write that the engine's
last act has freed has been reconsidered (R178; log 10). -/
def execFullResetComplete (s : State) : Host.Outcome State Fault Refusal :=
  if s.pins.resetn then .next s else .next s.settleWork.judgeAttn

/-- PART_RESET with scope BATCHES (R44, R62, R176). -/
def State.partResetBatches (s : State) : State :=
  let n := s.resetCount
  (State.discardAll .serviceBatches s.faultHeld).reply .ok [num8 n]

/-- PART_RESET_BATCHES (R176). -/
def execPartResetBatches (tag : Byte) (s : State) : Host.Outcome State Fault Refusal :=
  event (State.takeRequest tag 0x7F [0x01] State.partResetBatches) s

/-- PART_RESET with scope FULL: full reset pending, completing at once when the engine is IDLE or HALTED (R97, R177). -/
def State.partResetFull (s : State) : State :=
  let s := { s with engine := { s.engine with fullReset := true } }
  if s.fullResetDue then s.completeReset false else s

/-- PART_RESET_FULL (R177). -/
def execPartResetFull (tag : Byte) (s : State) : Host.Outcome State Fault Refusal :=
  event (State.takeRequest tag 0x7F [0x02] State.partResetFull) s

end Sys2Proof.Machine
end

