-- ==== Sys2Proof/Machine/Settings.lean ====
section
/-! DEFINITION. IDENT, GATE, TIMER_SET, LIMITS_SET, LIMITS_READ, COUNTERS_READ and REPORTS_TAKE (R71, R72, R82, R83, R150, R151, R171 to
R175). -/

namespace Sys2Proof.Machine

/-- IDENT (R171). -/
def State.ident (s : State) : State := s.reply .ok identPayload

/-- IDENT (R171). -/
def execIdent (tag : Byte) (s : State) : Host.Outcome State Fault Refusal :=
  event (State.takeRequest tag 0x01 [] State.ident) s

/-! ### GATE -/

/-- The response of GATE, with the engine as it stands after the action (R83). -/
def State.replyGate (s : State) : State := s.reply .ok (gatePayload s.engine s.handEntries.length)

/-- GATE with an action that sets the gate (R82). -/
def State.setGate (g : Gate) (s : State) : State := State.replyGate { s with engine := { s.engine with gate := g } }

/-- GATE_HOLD (R82). -/
def execGateHold (tag : Byte) (s : State) : Host.Outcome State Fault Refusal :=
  event (State.takeRequest tag 0x31 [0x01] (State.setGate .held)) s

/-- GATE_OPEN (R82). -/
def execGateOpen (tag : Byte) (s : State) : Host.Outcome State Fault Refusal :=
  event (State.takeRequest tag 0x31 [0x02] (State.setGate .opened)) s

/-- GATE_READ (R83). -/
def execGateRead (tag : Byte) (s : State) : Host.Outcome State Fault Refusal :=
  event (State.takeRequest tag 0x31 [0x00] State.replyGate) s

/-! ### TIMER_SET -/

/-- A present field of a command passes its check. -/
def presentOk {α : Type} (ok : α → Bool) : Option α → Bool
  | some x => ok x
  | none => true

/-- The checks of TIMER_SET, all of which answer BAD_ARGUMENT (R72). -/
def timerArgsOk (mode : Option Byte) (period : Option Half) (qa qb : Option Byte) : Bool :=
  presentOk (fun m => (TimerMode.ofCode m).isSome) mode && presentOk (fun p => decide (2 ≤ p.toNat)) period &&
    presentOk (fun q => decide (q.toNat ≤ 15)) qa && presentOk (fun q => decide (q.toNat ≤ 15)) qb

/-- Writing the mode: it takes effect at once, the count restarts, a pending period becomes active, and a period in the same command
becomes active instead (R71). -/
def EpochUnit.writeMode (m : TimerMode) (period : Option Half) (e : EpochUnit) : EpochUnit :=
  { e.restart with mode := m, active := period.getD e.restart.active }

/-- Writing the period without a mode (R71). -/
def EpochUnit.writePeriod (p : Half) (e : EpochUnit) : EpochUnit :=
  if e.mode = .off then { e with active := p, pending := none } else { e with pending := some p }

/-- Mode and period of a TIMER_SET (R71). -/
def EpochUnit.writeTimer (mode : Option TimerMode) (period : Option Half) (e : EpochUnit) : EpochUnit :=
  match mode, period with
  | some m, _ => e.writeMode m period
  | none, some p => e.writePeriod p
  | none, none => e

/-- Qualify times of a TIMER_SET; a qualifier's state stays as it is (R66). -/
def EpochUnit.writeQualify (qa qb : Option Byte) (e : EpochUnit) : EpochUnit :=
  { e with
    lineA := { e.lineA with time := qa.getD e.lineA.time }
    lineB := { e.lineB with time := qb.getD e.lineB.time } }

/-- TIMER_SET with its present fields (R71, R72). -/
def State.timerSet (mode : Option Byte) (period : Option Half) (qa qb : Option Byte) (s : State) : State :=
  if timerArgsOk mode period qa qb then
    let e := (s.epoch.writeTimer (mode.bind TimerMode.ofCode) period).writeQualify qa qb
    State.reply .ok (timerPayload e) { s with epoch := e }
  else s.refuse .badArgument

/-- One bit of a presence set (R184). -/
def presenceBit {α : Type} (bit : Byte) (x : Option α) : Byte := if x.isSome then bit else 0x00

/-- The 6 bytes of a TIMER_SET request payload, absent fields 00H (R184). -/
def timerBytes (mode : Option Byte) (period : Option Half) (qa qb : Option Byte) : List Byte :=
  (presenceBit 0x01 mode ||| presenceBit 0x02 period ||| presenceBit 0x04 qa ||| presenceBit 0x08 qb) ::
    mode.getD 0 :: be16 (period.getD 0) ++ [qa.getD 0, qb.getD 0]

/-- TIMER_SET_MODE (R71, R72). -/
def execTimerSetMode (tag mode : Byte) (period : Option Half) (qa qb : Option Byte) (s : State) :
    Host.Outcome State Fault Refusal :=
  event (State.takeRequest tag 0x40 (timerBytes (some mode) period qa qb) (State.timerSet (some mode) period qa qb)) s

/-- TIMER_SET_PERIOD (R71, R72). -/
def execTimerSetPeriod (tag : Byte) (period : Half) (qa qb : Option Byte) (s : State) :
    Host.Outcome State Fault Refusal :=
  event (State.takeRequest tag 0x40 (timerBytes none (some period) qa qb) (State.timerSet none (some period) qa qb)) s

/-- TIMER_SET_QUALIFY_A (R66, R72). -/
def execTimerSetQualifyA (tag qa : Byte) (qb : Option Byte) (s : State) : Host.Outcome State Fault Refusal :=
  event (State.takeRequest tag 0x40 (timerBytes none none (some qa) qb) (State.timerSet none none (some qa) qb)) s

/-- TIMER_SET_QUALIFY_B (R66, R72). -/
def execTimerSetQualifyB (tag qb : Byte) (s : State) : Host.Outcome State Fault Refusal :=
  event (State.takeRequest tag 0x40 (timerBytes none none none (some qb)) (State.timerSet none none none (some qb))) s

/-- TIMER_SETTINGS_READ (R72). -/
def execTimerSettingsRead (tag : Byte) (s : State) : Host.Outcome State Fault Refusal :=
  event (State.takeRequest tag 0x40 (timerBytes none none none none) (State.timerSet none none none none)) s

/-! ### LIMITS_SET and LIMITS_READ -/

/-- The checks of LIMITS_SET on its present limits (R172). -/
def limitsOk (timeout watermark idle : Option Byte) : Bool :=
  presentOk (fun t => decide (1 ≤ t.toNat)) timeout &&
    presentOk (fun w => decide (1 ≤ w.toNat) && decide (w.toNat ≤ 64)) watermark &&
    presentOk (fun i => decide (1 ≤ i.toNat)) idle

/-- A written idle time takes effect at once and restarts the idle timer (R154, R173). -/
def ReportUnit.writeIdle (idle : Option Byte) (r : ReportUnit) : ReportUnit :=
  match idle with
  | some i => { r with idleTime := i, idleElapsed := 0, idleRunOut := false }
  | none => r

/-- The present limits are written together (R173). -/
def State.writeLimits (hold : Option Half) (timeout watermark idle : Option Byte) (s : State) : State :=
  { s with
    store := { s.store with writeHoldLimit := hold.getD s.store.writeHoldLimit }
    arb := { s.arb with timeout := timeout.getD s.arb.timeout }
    rep := ReportUnit.writeIdle idle { s.rep with watermark := watermark.getD s.rep.watermark } }

/-- LIMITS_READ (R174). -/
def State.limitsRead (s : State) : State := s.reply .ok (limitsPayload s)

/-- LIMITS_SET (R172, R173). -/
def State.limitsSet (hold : Option Half) (timeout watermark idle : Option Byte) (s : State) : State :=
  if limitsOk timeout watermark idle then (s.writeLimits hold timeout watermark idle).limitsRead
  else s.refuse .badArgument

/-- The 6 bytes of a LIMITS_SET request payload, absent limits 00H (R184). -/
def limitsBytes (hold : Option Half) (timeout watermark idle : Option Byte) : List Byte :=
  (presenceBit 0x01 hold ||| presenceBit 0x02 timeout ||| presenceBit 0x04 watermark ||| presenceBit 0x08 idle) ::
    be16 (hold.getD 0) ++ [timeout.getD 0, watermark.getD 0, idle.getD 0]

/-- LIMITS_SET_WRITE_HOLD_LIMIT (R30, R172, R173). -/
def execLimitsSetWriteHoldLimit (tag : Byte) (limit : Half) (timeout watermark idle : Option Byte) (s : State) :
    Host.Outcome State Fault Refusal :=
  event (State.takeRequest tag 0x50 (limitsBytes (some limit) timeout watermark idle)
    (State.limitsSet (some limit) timeout watermark idle)) s

/-- LIMITS_SET_MEMORY_ACCESS_TIMEOUT (R135, R172, R173). -/
def execLimitsSetMemoryAccessTimeout (tag timeout : Byte) (watermark idle : Option Byte) (s : State) :
    Host.Outcome State Fault Refusal :=
  event (State.takeRequest tag 0x50 (limitsBytes none (some timeout) watermark idle)
    (State.limitsSet none (some timeout) watermark idle)) s

/-- LIMITS_SET_WATERMARK (R154, R172, R173). -/
def execLimitsSetWatermark (tag watermark : Byte) (idle : Option Byte) (s : State) : Host.Outcome State Fault Refusal :=
  event (State.takeRequest tag 0x50 (limitsBytes none none (some watermark) idle)
    (State.limitsSet none none (some watermark) idle)) s

/-- LIMITS_SET_IDLE_TIME (R154, R172, R173). -/
def execLimitsSetIdleTime (tag idle : Byte) (s : State) : Host.Outcome State Fault Refusal :=
  event (State.takeRequest tag 0x50 (limitsBytes none none none (some idle)) (State.limitsSet none none none (some idle))) s

/-- LIMITS_READ (R174). -/
def execLimitsRead (tag : Byte) (s : State) : Host.Outcome State Fault Refusal :=
  event (State.takeRequest tag 0x51 [] State.limitsRead) s

/-! ### COUNTERS_READ and REPORTS_TAKE -/

/-- COUNTERS_READ (R175). -/
def State.countersRead (s : State) : State := s.reply .ok (countersPayload s)

/-- COUNTERS_READ (R175). -/
def execCountersRead (tag : Byte) (s : State) : Host.Outcome State Fault Refusal :=
  event (State.takeRequest tag 0x52 [] State.countersRead) s

/-- Step 1 of R150, and step 3 with it: up to three of the oldest records are removed, and then the idle timer restarts. -/
def ReportUnit.removeOldest (r : ReportUnit) : ReportUnit :=
  if r.queue.isEmpty then r else { r with queue := r.queue.drop 3, idleElapsed := 0, idleRunOut := false }

/-- Step 2 of R150: records lost before a take that removed some are reported by a REPORTS_LOST record (R151). -/
def ReportUnit.reportLoss (removed : Bool) (r : ReportUnit) : ReportUnit :=
  if removed && r.lost != 0 then ReportUnit.take { r with lost := 0 } (.reportsLost r.lost) else r

/-- REPORTS_TAKE (R150, R151). -/
def State.reportsTake (s : State) : State :=
  let taken := s.rep.queue.take 3
  let r := s.rep.removeOldest.reportLoss (!taken.isEmpty)
  State.reply (if taken.isEmpty then .none else .ok) (reportsPayload taken r.queue.length r.time) { s with rep := r }

/-- REPORTS_TAKE (R150, R151). -/
def execReportsTake (tag : Byte) (s : State) : Host.Outcome State Fault Refusal :=
  event (State.takeRequest tag 0x60 [] State.reportsTake) s

end Sys2Proof.Machine
end

