-- ==== Sys2Proof/Machine/Windows.lean ====
section
/-! DEFINITION. The window commands: WINDOW_SET, WINDOW_DROP, WINDOW_READ, WINDOW_CLEAR, and UNDO_READ (R12 to R17, R111 to R115). -/

namespace Sys2Proof.Machine

/-! ### WINDOW_SET -/

/-- The 22 bytes of a WINDOW_SET request payload (R184). -/
def setBytes (a : WindowSetArgs) : List Byte :=
  a.index :: be32 a.base ++ be32 a.size ++
    [a.cls, a.updateAccess, a.cycleAccess, a.tap, a.doneReports, a.epochSource, a.closeMode, a.closingFlag] ++
    be32 a.closingAddr ++ [a.batchLimit]

/-- The closing address that the flag and the address give, if they are valid for a window (R7, R184): absent, or a multiple of 4
inside the window. -/
def closingField (base size : Word) (flag : Byte) (addr : Word) : Option (Option Word) :=
  if flag = 0x00 then some none
  else if flag = 0x01 ∧ addr.toNat % 4 = 0 ∧ base.toNat ≤ addr.toNat ∧ addr.toNat + 4 ≤ base.toNat + size.toNat then
    some (some addr)
  else none

/-- The HELD-only fields, if they pass check 4 of R12. -/
def heldFields (a : WindowSetArgs) : Option HeldFields :=
  match WindowSource.ofCode a.epochSource, CloseMode.ofCode a.closeMode,
      closingField a.base a.size a.closingFlag a.closingAddr with
  | some source, some mode, some closing =>
    if (mode = .onEpoch ∧ source = .immediate) ∨ a.batchLimit.toNat = 0 ∨ Config.largestBatchLimit < a.batchLimit.toNat then
      none
    else some ⟨source, mode, closing, a.batchLimit⟩
  | _, _, _ => none

/-- The base and the size are ones a window may have (R2). -/
def extentValid (base size : Word) : Bool :=
  base.toNat % 64 == 0 && size.toNat % 64 == 0 && decide (64 ≤ size.toNat) && decide (size.toNat ≤ 16777216) &&
    decide (base.toNat + size.toNat ≤ 2 ^ 32)

/-- The class with its fields, if the code is valid and, for HELD, the fields are (R12, checks 3 and 4). -/
def classField (a : WindowSetArgs) : Option WindowClass :=
  if a.cls = 0x00 then some .pass
  else if a.cls = 0x01 then (heldFields a).map .held
  else none

/-- The descriptor, if it passes checks 3 and 4 of R12. -/
def setDescriptor (a : WindowSetArgs) : Option Descriptor :=
  match classField a, Access.ofCode a.updateAccess, Access.ofCode a.cycleAccess, Tap.ofCode a.tap,
      boolOfCode a.doneReports with
  | some cls, some upd, some cyc, some tap, some done =>
    if extentValid a.base a.size then some ⟨a.base, a.size, cls, upd, cyc, tap, done⟩ else none
  | _, _, _, _, _ => none

/-- The place is installed and shares an address with a descriptor. -/
def Place.clashes (d : Descriptor) (p : Place) : Bool :=
  match p.desc with
  | some e => d.overlaps e
  | none => false

/-- The lowest index of an installed window that a descriptor overlaps (R12, check 5). -/
def State.overlapWith (d : Descriptor) (s : State) : Option WIdx :=
  allWindows.find? fun i => (s.win i).place.clashes d

/-- A waiting request is a write that a descriptor covers. -/
def writeUnder (d : Descriptor) : Option BusRequest → Bool
  | some (.write a _) => d.covers a
  | some (.read _ _) => false
  | none => false

/-- A pass-through write of either port that a new HELD window would cover waits at the arbiter (R12, check 6). -/
def State.writeWaits (d : Descriptor) (s : State) : Bool := writeUnder d s.arb.cp || writeUnder d s.arb.up

/-- A window is installed: ACTIVE, counters 0, no batches (R13). -/
def State.install (i : WIdx) (d : Descriptor) (s : State) : State :=
  s.setWin i ⟨.active d, WindowCounters.zero, none, []⟩

/-- WINDOW_SET (R12, R13). -/
def State.windowSet (a : WindowSetArgs) (s : State) : State :=
  match windowIndex a.index with
  | none => s.refuse .badArgument
  | some i =>
    if (s.win i).place = .free then
      match setDescriptor a with
      | none => s.refuse .badArgument
      | some d =>
        match s.overlapWith d with
        | some j => s.reply .overlap [indexByte j]
        | none =>
          if d.cls.fields.isSome && s.writeWaits d then s.refuse .inUse
          else (s.install i d).reply .ok []
    else s.refuse .inUse

/-- WINDOW_SET (R12, R13). -/
def execWindowSet (tag : Byte) (args : WindowSetArgs) (s : State) : Host.Outcome State Fault Refusal :=
  event (State.takeRequest tag 0x10 (setBytes args) (State.windowSet args)) s

/-! ### WINDOW_DROP and WINDOW_READ -/

/-- The place becomes FREE, with its counters left in it (R9, R15). -/
def State.freePlace (i : WIdx) (s : State) : State := s.mapWin i fun w => { w with place := .free }

/-- WINDOW_DROP (R14, R15). -/
def State.windowDrop (index : Byte) (s : State) : State :=
  match windowIndex index with
  | none => s.refuse .badArgument
  | some i =>
    match (s.win i).place with
    | .free => s.refuse .noWindow
    | .faulted _ => s.refuse .faulted
    | .active _ =>
      if (s.win i).idle then
        let n := (s.win i).discardable
        ((((s.faultHeldOf i).discardOpen i .windowDropped).discardClosed i .windowDropped).freePlace i).reply .ok [num8 n]
      else s.refuse .inUse

/-- WINDOW_DROP (R14, R15). -/
def execWindowDrop (tag index : Byte) (s : State) : Host.Outcome State Fault Refusal :=
  event (State.takeRequest tag 0x11 [index] (State.windowDrop index)) s

/-- WINDOW_READ (R17). -/
def State.windowRead (index : Byte) (s : State) : State :=
  match windowIndex index with
  | none => s.refuse .badArgument
  | some i =>
    match (s.win i).place with
    | .free => s.refuse .noWindow
    | .active d => s.reply .ok (windowReadPayload i false d (s.win i).counters)
    | .faulted d => s.reply .ok (windowReadPayload i true d (s.win i).counters)

/-- WINDOW_READ (R17). -/
def execWindowRead (tag index : Byte) (s : State) : Host.Outcome State Fault Refusal :=
  event (State.takeRequest tag 0x12 [index] (State.windowRead index)) s

/-! ### WINDOW_CLEAR and UNDO_READ -/

/-- RETRY's effect: the window is ACTIVE and in hand again, its cycle reads are held, the resumed rollback begins, and an IMMEDIATE
window is queued from (R112, R125). The slot stays WORKING. -/
def State.resume (i : WIdx) (s : State) : State :=
  let s := s.mapWin i fun w => { w with place := w.place.toActive }
  let s := { s with engine := { s.engine with state := .rollingBack, inHand := none, cursor := none, resumedWrites := 0 } }
  ((s.holdCycleRead i).queueImmediate i).continueRollback

/-- WINDOW_CLEAR with action RETRY (R111, R112). -/
def State.clearRetry (index : Byte) (s : State) : State :=
  match windowIndex index with
  | none => s.refuse .badArgument
  | some i =>
    match (s.win i).place with
    | .free => s.refuse .noWindow
    | .active _ => s.refuse .notFaulted
    | .faulted _ => s.resume i

/-- WINDOW_CLEAR_RETRY (R111, R112). -/
def execWindowClearRetry (tag index : Byte) (s : State) : Host.Outcome State Fault Refusal :=
  event (State.takeRequest tag 0x13 [index, 0x01] (State.clearRetry index)) s

/-- ABANDON's effect, in the order of R114. -/
def State.abandon (i : WIdx) (s : State) : State :=
  let n := (s.win i).discardable
  let s := s.faultHeldOf i
  let s := { s with engine := { s.engine with undo := [] } }
  let s := (s.discardOpen i .cleared).discardClosed i .cleared
  let s := s.mapWin i fun w => { w with place := w.place.toActive }
  State.reply .ok [num8 n] { s with engine := s.engine.quiet }

/-- WINDOW_CLEAR with action ABANDON (R111, R114). -/
def State.clearAbandon (index : Byte) (s : State) : State :=
  match windowIndex index with
  | none => s.refuse .badArgument
  | some i =>
    match (s.win i).place with
    | .free => s.refuse .noWindow
    | .active _ => s.refuse .notFaulted
    | .faulted _ => s.abandon i

/-- WINDOW_CLEAR_ABANDON (R111, R114). -/
def execWindowClearAbandon (tag index : Byte) (s : State) : Host.Outcome State Fault Refusal :=
  event (State.takeRequest tag 0x13 [index, 0x02] (State.clearAbandon index)) s

/-- UNDO_READ (R115). -/
def State.undoRead (start : Byte) (s : State) : State :=
  if start.toNat < Config.undoRecords then
    match s.engine.state, s.engine.context with
    | .halted, some c => s.reply .ok (undoReadPayload c s.engine.undo start)
    | _, _ => s.refuse .none
  else s.refuse .badArgument

/-- UNDO_READ (R115). -/
def execUndoRead (tag start : Byte) (s : State) : Host.Outcome State Fault Refusal :=
  event (State.takeRequest tag 0x30 [start] (State.undoRead start)) s

end Sys2Proof.Machine
end

