-- ==== Sys2Proof/Machine/Link.lean ====
section
/-! DEFINITION. The service link: transactions, request frames and their dispatch, dropped requests, and collects (R158 to R168, R184). -/

namespace Sys2Proof.Machine

/-! ### Dispatch of the bytes of a request (R168, R184) -/

/-- A command with an empty payload; any other payload length is refused. -/
def onEmpty (op : State → State) : List Byte → State → State
  | [] => op
  | _ => State.refuse .badArgument

/-- A command with a one-byte payload. -/
def onByte (op : Byte → State → State) : List Byte → State → State
  | [b] => op b
  | _ => State.refuse .badArgument

/-- WINDOW_SET's 22 bytes (R184). -/
def onDescriptor : List Byte → State → State
  | [i, b3, b2, b1, b0, z3, z2, z1, z0, cls, upd, cyc, tap, done, src, mode, flag, a3, a2, a1, a0, limit] =>
    State.windowSet ⟨i, word b3 b2 b1 b0, word z3 z2 z1 z0, cls, upd, cyc, tap, done, src, mode, flag, word a3 a2 a1 a0, limit⟩
  | _ => State.refuse .badArgument

/-- WINDOW_CLEAR's index and action (R111). -/
def onClear : List Byte → State → State
  | [i, a] =>
    if a = 0x01 then State.clearRetry i else if a = 0x02 then State.clearAbandon i else State.refuse .badArgument
  | _ => State.refuse .badArgument

/-- BATCH_DISCARD's index and target (R37). -/
def onDiscard : List Byte → State → State
  | [i, t] =>
    if t = 0x01 then State.onActiveHeld i State.discardTargetOpen
    else if t = 0x02 then State.onActiveHeld i State.discardTargetWaiting
    else if t = 0x03 then State.onActiveHeld i State.discardTargetQueued
    else State.refuse .badArgument
  | _ => State.refuse .badArgument

/-- GATE's action (R82). -/
def onGate : List Byte → State → State
  | [a] =>
    if a = 0x00 then State.replyGate else if a = 0x01 then State.setGate .held
    else if a = 0x02 then State.setGate .opened else State.refuse .badArgument
  | _ => State.refuse .badArgument

/-- A field that a presence bit names (R184). -/
def present {α : Type} (set bit : Byte) (x : α) : Option α := if set &&& bit = 0x00 then none else some x

/-- TIMER_SET's presence set and fields; bits 7 to 4 are not checked (R184). -/
def onTimer : List Byte → State → State
  | [p, m, p1, p0, qa, qb] =>
    State.timerSet (present p 0x01 m) (present p 0x02 (half p1 p0)) (present p 0x04 qa) (present p 0x08 qb)
  | _ => State.refuse .badArgument

/-- LIMITS_SET's presence set and limits; a 1 in bits 7 to 4 is refused (R172, R184). -/
def onLimits : List Byte → State → State
  | [p, h1, h0, t, w, i] =>
    if p &&& 0xF0 = 0x00 then
      State.limitsSet (present p 0x01 (half h1 h0)) (present p 0x02 t) (present p 0x04 w) (present p 0x08 i)
    else State.refuse .badArgument
  | _ => State.refuse .badArgument

/-- MEMORY_PROBE's address and view (R138). -/
def onProbe : List Byte → State → State
  | [a3, a2, a1, a0, v] =>
    if v = 0x01 then State.memoryProbe .memory (word a3 a2 a1 a0)
    else if v = 0x02 then State.memoryProbe .update (word a3 a2 a1 a0)
    else State.refuse .badArgument
  | _ => State.refuse .badArgument

/-- PART_RESET's scope (R176). -/
def onPartReset : List Byte → State → State
  | [c] =>
    if c = 0x01 then State.partResetBatches else if c = 0x02 then State.partResetFull else State.refuse .badArgument
  | _ => State.refuse .badArgument

/-- The command codes (R184), each with what carries its payload out. -/
def commandTable : List (Byte × (List Byte → State → State)) :=
  [(0x01, onEmpty State.ident), (0x10, onDescriptor), (0x11, onByte State.windowDrop), (0x12, onByte State.windowRead),
   (0x13, onClear), (0x20, onByte fun i => State.onActiveHeld i State.closeOpen), (0x21, onDiscard),
   (0x22, onByte State.batchList), (0x30, onByte State.undoRead), (0x31, onGate), (0x40, onTimer), (0x50, onLimits),
   (0x51, onEmpty State.limitsRead), (0x52, onEmpty State.countersRead), (0x60, onEmpty State.reportsTake),
   (0x70, onProbe), (0x7F, onPartReset)]

/-- A good request is dispatched: the code, then the payload length, then the command's own checks and effect (R168). -/
def dispatch (code : Byte) (payload : List Byte) : State → State :=
  match commandTable.find? (·.1 == code) with
  | some row => row.2 payload
  | none => State.refuse .badCommand

/-! ### Request frames -/

/-- A request frame read from the bytes of a transaction: its tag, command code and payload, and whether its CRC-8 is right. -/
structure RequestFrame where
  tag : Byte
  code : Byte
  payload : List Byte
  good : Bool
deriving DecidableEq, Repr

/-- The complete request frame that stands at the head of the bytes received, if one does; bytes after it are ignored (R159,
R160). -/
def parseFrame : List Byte → Option RequestFrame
  | kind :: tag :: code :: len :: rest =>
    if kind = 0xC1 ∧ len.toNat ≤ Config.largestPayload then
      match rest[len.toNat]? with
      | some c =>
        let payload := rest.take len.toNat
        some ⟨tag, code, payload, crc8 ([kind, tag, code, len] ++ payload) == c⟩
      | none => none
    else none
  | _ => none

/-- A bad frame is answered BAD_FRAME, and no command runs (R162). -/
def State.badFrame (tag : Byte) (s : State) : State :=
  let s := s.endFrame
  match s.svc.slot with
  | .idle => { s with svc := { s.svc with slot := .ready tag .badFrame [] } }
  | _ => s.dropRequest

/-- A complete request frame is decided (R162). -/
def State.decideFrame (f : RequestFrame) (s : State) : State :=
  if f.good then s.takeRequest f.tag f.code f.payload (dispatch f.code f.payload) else s.badFrame f.tag

/-- The link transaction in progress, if its frame kind byte is still to be decided. -/
def State.undecided (s : State) : Option LinkTxn :=
  match s.svc.link with
  | some t =>
    match t.phase with
    | .kindPending => some t
    | _ => none
  | none => none

/-- A request frame of the transaction in progress is decided; a transaction that began with the slot WORKING or READY has its
request dropped (R162, R163). -/
def State.requestFrame (frame : List Byte) (s : State) : State :=
  match s.undecided, parseFrame frame with
  | some t, some f => if showedIdle t.status then s.decideFrame f else s.endFrame.dropRequest
  | _, _ => s

/-- REQUEST_FRAME_DECIDED (R162, R168). -/
def execRequestFrameDecided (frame : List Byte) (s : State) : Host.Outcome State Fault Refusal :=
  event (State.requestFrame frame) s

/-- The frame kind byte of a request comes in a transaction that began with the slot WORKING or READY (R163). -/
def State.dropOpenRequest (s : State) : State :=
  match s.undecided with
  | some t => if showedIdle t.status then s else s.endFrame.dropRequest
  | none => s

/-- REQUEST_DROPPED (R163). -/
def execRequestDropped (s : State) : Host.Outcome State Fault Refusal := event State.dropOpenRequest s

/-! ### Transactions and collects -/

/-- SSN falls: a transaction begins with its link status byte fixed (R158, R159). A line that is low already has no such edge (log 4). -/
def State.ssnFalls (s : State) : State :=
  if s.pins.ssn then s
  else { s with pins := { s.pins with ssn := true }, svc := { s.svc with link := some ⟨s.statusByte, .kindPending⟩ } }

/-- LINK_TRANSACTION_START (R158, R159). While RESETN is asserted no transaction begins. -/
def execLinkTransactionStart (s : State) : Host.Outcome State Fault Refusal :=
  if s.pins.resetn then .next { s with pins := { s.pins with ssn := true } } else event State.ssnFalls s

/-- The frame kind COLLECT decides the response frame from the slot's state (R164). -/
def State.beginCollect (s : State) : State :=
  match s.undecided with
  | some t =>
    { s with svc := { s.svc with
      link := some { t with phase := .collecting (collectFrame s.svc.slot) s.reasonResponse } } }
  | none => s

/-- COLLECT (R164). -/
def execCollect (s : State) : Host.Outcome State Fault Refusal := event State.beginCollect s

/-- A transaction whose frame kind is still undecided when SSN rises is decided from the bytes received: a request cut short is a bad
frame, with tag 0 if its tag had not come; an unknown frame kind is ignored (R159, R162; log 15). -/
def State.decideAtRise (received : List Byte) (s : State) : State :=
  match s.undecided, received with
  | some t, kind :: rest =>
    if kind = 0xC2 then s.beginCollect
    else if kind = 0xC1 then
      if showedIdle t.status then
        match parseFrame received with
        | some f => s.decideFrame f
        | none => s.badFrame (rest.headD 0)
      else s.endFrame.dropRequest
    else s
  | _, _ => s

/-- A collect whose whole READY response, CRC-8 included, has been shifted out behind the link status byte empties the slot (R165). -/
def State.endCollect (received : List Byte) (s : State) : State :=
  match s.svc.link with
  | some t =>
    match t.phase with
    | .collecting frame true =>
      if frame.length + 1 ≤ received.length then { s with svc := { s.svc with slot := .idle } } else s
    | _ => s
  | none => s

/-- SSN is high and no transaction is in progress. -/
def State.ssnHigh (s : State) : State :=
  { s with pins := { s.pins with ssn := false }, svc := { s.svc with link := none } }

/-- SSN rises (R158, R162, R165). A line that is high already has no such edge (log 4). -/
def State.ssnRise (received : List Byte) (s : State) : State :=
  if s.pins.ssn then ((s.decideAtRise received).endCollect received).ssnHigh else s

/-- SSN_RISES; the bits of a byte cut short are discarded (R158, R162, R165). -/
def execSsnRises (received : List Byte) (_partialBits : List Bool) (s : State) : Host.Outcome State Fault Refusal :=
  if s.pins.resetn then .next s.ssnHigh else event (State.ssnRise received) s

end Sys2Proof.Machine
end

