-- ==== Sys2Proof/Machine/Dispatch.lean ====
section
/-! DEFINITION. One arm for each command: a direct call of its meaning. -/

namespace Sys2Proof.Machine

def exec (i : Instr) (s : State) : Host.Outcome State Fault Refusal :=
  match i with
  | .powerOnReset => Sys2Proof.Machine.execPowerOnReset s
  | .resetnDeasserted => Sys2Proof.Machine.execResetnDeasserted s
  | .urstnAsserted => Sys2Proof.Machine.execUrstnAsserted s
  | .urstnDeasserted => Sys2Proof.Machine.execUrstnDeasserted s
  | .crstnAsserted => Sys2Proof.Machine.execCrstnAsserted s
  | .crstnDeasserted => Sys2Proof.Machine.execCrstnDeasserted s
  | .updateTransactionTaken req => Sys2Proof.Machine.execUpdateTransactionTaken req s
  | .heldWriteReconsidered => Sys2Proof.Machine.execHeldWriteReconsidered s
  | .writeHoldExpired => Sys2Proof.Machine.execWriteHoldExpired s
  | .cycleTransactionTaken req => Sys2Proof.Machine.execCycleTransactionTaken req s
  | .qualifyStart line => Sys2Proof.Machine.execQualifyStart line s
  | .pulseDropped line => Sys2Proof.Machine.execPulseDropped line s
  | .pulseAccepted line => Sys2Proof.Machine.execPulseAccepted line s
  | .periodEnd => Sys2Proof.Machine.execPeriodEnd s
  | .commitStart => Sys2Proof.Machine.execCommitStart s
  | .grant => Sys2Proof.Machine.execGrant s
  | .memoryAnswer ans => Sys2Proof.Machine.execMemoryAnswer ans s
  | .accessTimeout => Sys2Proof.Machine.execAccessTimeout s
  | .lateAnswer ans => Sys2Proof.Machine.execLateAnswer ans s
  | .fullResetComplete => Sys2Proof.Machine.execFullResetComplete s
  | .idleTimerRunOut => Sys2Proof.Machine.execIdleTimerRunOut s
  | .linkTransactionStart => Sys2Proof.Machine.execLinkTransactionStart s
  | .requestFrameDecided frame => Sys2Proof.Machine.execRequestFrameDecided frame s
  | .requestDropped => Sys2Proof.Machine.execRequestDropped s
  | .collect => Sys2Proof.Machine.execCollect s
  | .ssnRises received partialBits => Sys2Proof.Machine.execSsnRises received partialBits s
  | .ident tag => Sys2Proof.Machine.execIdent tag s
  | .windowSet tag args => Sys2Proof.Machine.execWindowSet tag args s
  | .windowDrop tag index => Sys2Proof.Machine.execWindowDrop tag index s
  | .windowRead tag index => Sys2Proof.Machine.execWindowRead tag index s
  | .windowClearRetry tag index => Sys2Proof.Machine.execWindowClearRetry tag index s
  | .windowClearAbandon tag index => Sys2Proof.Machine.execWindowClearAbandon tag index s
  | .batchClose tag index => Sys2Proof.Machine.execBatchClose tag index s
  | .batchDiscardOpen tag index => Sys2Proof.Machine.execBatchDiscardOpen tag index s
  | .batchDiscardWaiting tag index => Sys2Proof.Machine.execBatchDiscardWaiting tag index s
  | .batchDiscardQueued tag index => Sys2Proof.Machine.execBatchDiscardQueued tag index s
  | .batchList tag index => Sys2Proof.Machine.execBatchList tag index s
  | .undoRead tag start => Sys2Proof.Machine.execUndoRead tag start s
  | .gateHold tag => Sys2Proof.Machine.execGateHold tag s
  | .gateOpen tag => Sys2Proof.Machine.execGateOpen tag s
  | .gateRead tag => Sys2Proof.Machine.execGateRead tag s
  | .timerSetMode tag mode period qa qb => Sys2Proof.Machine.execTimerSetMode tag mode period qa qb s
  | .timerSetPeriod tag period qa qb => Sys2Proof.Machine.execTimerSetPeriod tag period qa qb s
  | .timerSetQualifyA tag qa qb => Sys2Proof.Machine.execTimerSetQualifyA tag qa qb s
  | .timerSetQualifyB tag qb => Sys2Proof.Machine.execTimerSetQualifyB tag qb s
  | .timerSettingsRead tag => Sys2Proof.Machine.execTimerSettingsRead tag s
  | .limitsSetWriteHoldLimit tag limit timeout watermark idle => Sys2Proof.Machine.execLimitsSetWriteHoldLimit tag limit timeout watermark idle s
  | .limitsSetMemoryAccessTimeout tag timeout watermark idle => Sys2Proof.Machine.execLimitsSetMemoryAccessTimeout tag timeout watermark idle s
  | .limitsSetWatermark tag watermark idle => Sys2Proof.Machine.execLimitsSetWatermark tag watermark idle s
  | .limitsSetIdleTime tag idle => Sys2Proof.Machine.execLimitsSetIdleTime tag idle s
  | .limitsRead tag => Sys2Proof.Machine.execLimitsRead tag s
  | .countersRead tag => Sys2Proof.Machine.execCountersRead tag s
  | .reportsTake tag => Sys2Proof.Machine.execReportsTake tag s
  | .memoryProbeMemory tag addr => Sys2Proof.Machine.execMemoryProbeMemory tag addr s
  | .memoryProbeUpdate tag addr => Sys2Proof.Machine.execMemoryProbeUpdate tag addr s
  | .partResetBatches tag => Sys2Proof.Machine.execPartResetBatches tag s
  | .partResetFull tag => Sys2Proof.Machine.execPartResetFull tag s

end Sys2Proof.Machine
end

