-- ==== Sys2Proof/Machine/Idle.lean ====
section
/-! DEFINITION. What the device does of itself when no command waits: what it owes, its own due events in a fixed order, and otherwise
one microsecond of its time base (R149; log 2). -/

namespace Sys2Proof.Machine

/-- A timer that has reached its limit (R35, R65, R68, R134, R153). -/
def State.expiryDue (s : State) : Option Instr :=
  if s.timeoutDue then some .accessTimeout
  else if s.holdDue then some .writeHoldExpired
  else if s.epoch.lineA.due then some (.pulseAccepted .a)
  else if s.epoch.lineB.due then some (.pulseAccepted .b)
  else if s.epoch.periodDue then some .periodEnd
  else if s.rep.idleDue then some .idleTimerRunOut
  else none

/-- A grant or a commit start (R84, R132). -/
def State.workDue (s : State) : Option Instr :=
  if s.grantDue then some .grant else if s.commitDue then some .commitStart else none

/-- The device's own event that is due, the first of a fixed order (log 2). -/
def State.dueEvent (s : State) : Option Instr := s.expiryDue <|> s.workDue

/-- One microsecond passes (R149). -/
def State.microsecond (s : State) : State := (s.elapse 1).judgeAttn

/-- The device by itself: what is owed, then its own due event, and otherwise one microsecond. While RESETN is asserted nothing happens
and no time counts (log 2). -/
def idleStep (s : State) : Host.Outcome State Fault Refusal :=
  if s.pins.resetn then .next s.microsecond
  else if s.owes then .next s.settle.judgeAttn
  else
    match s.dueEvent with
    | some c => exec c s
    | none => .next s.microsecond

end Sys2Proof.Machine
end

