-- ==== Sys2Proof/Safety.lean ====
section
/-! DEFINITION. What the statements speak of: when an event finds the device free to take it, the state in which a command has been
answered, the request frame of a command, and the laws that the device keeps (R13, R18, R20, R21, R24, R79, R80, R107, R131, R146,
R148, R155). -/

namespace Sys2Proof.Machine

/-! ### Vocabulary -/

/-- RESETN is deasserted and nothing is owed to an event already taken (log 1): an event is taken as it stands. -/
abbrev State.settled (s : State) : Prop := s.pins.resetn = false ∧ s.owes = false

/-- A request frame can be taken: the device is settled and the command slot is IDLE (R162). -/
abbrev State.takesCommands (s : State) : Prop := s.settled ∧ s.svc.slot = .idle

/-- The update port can take a request (R47). -/
abbrev State.takesUpdates (s : State) : Prop := s.settled ∧ s.upd.state = .idle ∧ s.pins.urstn = false

/-- The cycle port can take a request (R118). -/
abbrev State.takesCycles (s : State) : Prop := s.settled ∧ s.cyc.state = .idle ∧ s.pins.crstn = false

/-- A state in which the command with this tag has been answered, ATTN judged. The link transaction that brought it, if one is open,
has had its frame. -/
def State.answered (tag : Byte) (r : Result) (payload : List Byte) (s : State) : State :=
  State.judgeAttn { s with svc := { s.endFrame.svc with slot := .ready tag r payload } }

/-- A state in which the command with this tag, code and payload is being carried out, ATTN judged. -/
def State.working (tag code : Byte) (payload : List Byte) (s : State) : State :=
  State.judgeAttn { s with svc := { s.endFrame.svc with slot := .working tag code payload } }

/-- An access field permits a kind of transaction (R4). -/
def Access.permits (a : Access) (k : TxnKind) : Bool := a == .readWrite || (a == .readOnly && k == .read)

/-- An event that ends an access of this requester finds the device ready for it: settled, the port BUSY with the access (R136). -/
abbrev State.accessBy (who : Requester) (s : State) : Prop := s.settled ∧ s.arb.port.map (·.owner) = some who

/-- The state with the memory port FREE. -/
def State.portFreed (s : State) : State := { s with arb := { s.arb with port := none } }

/-- A staged batch of a window as a write finds it: the open batch, or the one that the write opens (R25, R26). -/
def State.batchFor (i : WIdx) (s : State) : Option (Half × List Entry) :=
  match (s.win i).openBatch with
  | some (.gathering id es) => some (id, es)
  | some (.spoiled _ _) => none
  | none => some (s.store.nextId, [])

/-- The store after a write that finds a window's slot has filled it: one id has been given if the slot was empty (R22). -/
def State.storeFor (i : WIdx) (s : State) : Store :=
  match (s.win i).openBatch with
  | some _ => s.store
  | none => { s.store with nextId := s.store.nextId + 1 }

/-- The update port takes an aligned write of a HELD window that its master may write (R49, R54). -/
abbrev State.takesStaged (a : Word) (d : WriteData) (i : WIdx) (ca : Access) (tap : Tap) (h : HeldFields) (s : State) : Prop :=
  s.takesUpdates ∧ a.toNat % sizeBytes (dataSize d) = 0 ∧ s.decodeAddr a = .held i .readWrite ca tap h

/-- The state with a window's open batch slot filled, an id given if it was empty (R22, R26). -/
def State.slotFilled (i : WIdx) (b : OpenBatch) (s : State) : State :=
  { s.setWin i { s.win i with openBatch := some b } with store := s.storeFor i }

/-- The entry list of a batch after it has taken a write: the word's entry overlaid where it stands, or a new one at the tail (R20). -/
def entriesWith (a : Word) (lanes : Quad (Option Byte)) (es : List Entry) : List Entry :=
  if es.any (fun e => e.addr == a) then
    es.map fun e => if e.addr = a then ⟨e.addr, overlay lanes e.lanes⟩ else e
  else es ++ [⟨a, lanes⟩]

/-- The number of batches that a batch-discarding reset takes: every open one, and every CLOSED or QUEUED one (R43). -/
def State.discarded (s : State) : Nat :=
  (s.windows.toList.map fun w =>
    (if w.openBatch.isSome then 1 else 0) + (w.waiting.filter fun b => b.state == .closed || b.state == .queued).length).sum

/-- The windows after a batch-discarding reset (R43). -/
def State.windowsKept (s : State) : Vector Window 16 :=
  s.windows.map fun w =>
    { w with openBatch := none, waiting := w.waiting.filter fun b => b.state == .committing || b.state == .rollingBack }

/-- The Update Port Unit after a held write of a window, if there is one, has been answered FAULT (R15, R37, R114). -/
def State.updFaulted (i : WIdx) (s : State) : UpdateUnit :=
  match s.upd.state with
  | .held x _ _ => if x.window = i then { s.upd with state := .idle, answer := some .fault } else s.upd
  | _ => s.upd

/-- The BATCH_DISCARDED records of a window's open batch and of its CLOSED batches, oldest first (R15, R114). -/
def discardRecords (i : WIdx) (cause : DiscardCause) (w : Window) : List RecordBody :=
  (match w.openBatch with
    | some (.gathering id _) => [.batchDiscarded i id cause]
    | some (.spoiled id _) => [.batchDiscarded i id cause]
    | none => []) ++
    (w.waiting.filter fun b => b.state == .closed).map fun b => .batchDiscarded i b.id cause

/-- The values that the completion of PART_RESET FULL leaves, but for the slot (R178). -/
def State.fullyReset (s : State) : State :=
  { s with
    windows := Vector.replicate 16 ⟨.free, ⟨0, 0, 0, 0, 0⟩, none, []⟩
    store := ⟨0, 2000⟩
    upd := match s.upd.state with
      | .held _ _ _ => { s.upd with state := .idle, answer := some .fault }
      | _ => s.upd
    epoch := ⟨⟨if s.pins.epochA then .high else .low, 2⟩, ⟨if s.pins.epochB then .high else .low, 2⟩,
      .off, 1000, none, 0, 0, 0, 0, 0⟩
    engine := ⟨.idle, .opened, [], none, none, [], none, 0, false⟩
    arb := { s.arb with streak := 0, timeout := 50 }
    rep := ⟨[], 0, 0, 0, 16, 10, 0, false, s.rep.attn⟩
    svc := { s.svc with dropped := 0 } }

/-- The row of LIMITS_SET that writes these limits, at least one of which is present (log 13). -/
def limitsRow (tag : Byte) (hold : Option Half) (timeout watermark idle : Option Byte) : Option Instr :=
  match hold, timeout, watermark, idle with
  | some h, _, _, _ => some (.limitsSetWriteHoldLimit tag h timeout watermark idle)
  | none, some t, _, _ => some (.limitsSetMemoryAccessTimeout tag t watermark idle)
  | none, none, some w, _ => some (.limitsSetWatermark tag w idle)
  | none, none, none, some i => some (.limitsSetIdleTime tag i)
  | none, none, none, none => none

/-- The row of TIMER_SET that carries these fields (log 13). -/
def timerRow (tag : Byte) (mode : Option Byte) (period : Option Half) (qa qb : Option Byte) : Instr :=
  match mode, period, qa, qb with
  | some m, _, _, _ => .timerSetMode tag m period qa qb
  | none, some p, _, _ => .timerSetPeriod tag p qa qb
  | none, none, some a, _ => .timerSetQualifyA tag a qb
  | none, none, none, some b => .timerSetQualifyB tag b
  | none, none, none, none => .timerSettingsRead tag

/-- The request frame that stands for a service command (R160, R184; log 5); none for every other row. -/
def requestOf : Instr → Option (List Byte)
  | .ident tag => some (requestFrame tag 0x01 [])
  | .windowSet tag a => some (requestFrame tag 0x10 (setBytes a))
  | .windowDrop tag i => some (requestFrame tag 0x11 [i])
  | .windowRead tag i => some (requestFrame tag 0x12 [i])
  | .windowClearRetry tag i => some (requestFrame tag 0x13 [i, 0x01])
  | .windowClearAbandon tag i => some (requestFrame tag 0x13 [i, 0x02])
  | .batchClose tag i => some (requestFrame tag 0x20 [i])
  | .batchDiscardOpen tag i => some (requestFrame tag 0x21 [i, 0x01])
  | .batchDiscardWaiting tag i => some (requestFrame tag 0x21 [i, 0x02])
  | .batchDiscardQueued tag i => some (requestFrame tag 0x21 [i, 0x03])
  | .batchList tag i => some (requestFrame tag 0x22 [i])
  | .undoRead tag n => some (requestFrame tag 0x30 [n])
  | .gateRead tag => some (requestFrame tag 0x31 [0x00])
  | .gateHold tag => some (requestFrame tag 0x31 [0x01])
  | .gateOpen tag => some (requestFrame tag 0x31 [0x02])
  | .timerSetMode tag m p a b => some (requestFrame tag 0x40 (timerBytes (some m) p a b))
  | .timerSetPeriod tag p a b => some (requestFrame tag 0x40 (timerBytes none (some p) a b))
  | .timerSetQualifyA tag a b => some (requestFrame tag 0x40 (timerBytes none none (some a) b))
  | .timerSetQualifyB tag b => some (requestFrame tag 0x40 (timerBytes none none none (some b)))
  | .timerSettingsRead tag => some (requestFrame tag 0x40 (timerBytes none none none none))
  | .limitsSetWriteHoldLimit tag h t w i => some (requestFrame tag 0x50 (limitsBytes (some h) t w i))
  | .limitsSetMemoryAccessTimeout tag t w i => some (requestFrame tag 0x50 (limitsBytes none (some t) w i))
  | .limitsSetWatermark tag w i => some (requestFrame tag 0x50 (limitsBytes none none (some w) i))
  | .limitsSetIdleTime tag i => some (requestFrame tag 0x50 (limitsBytes none none none (some i)))
  | .limitsRead tag => some (requestFrame tag 0x51 [])
  | .countersRead tag => some (requestFrame tag 0x52 [])
  | .reportsTake tag => some (requestFrame tag 0x60 [])
  | .memoryProbeMemory tag a => some (requestFrame tag 0x70 (be32 a ++ [0x01]))
  | .memoryProbeUpdate tag a => some (requestFrame tag 0x70 (be32 a ++ [0x02]))
  | .partResetBatches tag => some (requestFrame tag 0x7F [0x01])
  | .partResetFull tag => some (requestFrame tag 0x7F [0x02])
  | .powerOnReset | .resetnDeasserted | .urstnAsserted | .urstnDeasserted | .crstnAsserted | .crstnDeasserted
  | .updateTransactionTaken _ | .heldWriteReconsidered | .writeHoldExpired | .cycleTransactionTaken _
  | .qualifyStart _ | .pulseDropped _ | .pulseAccepted _ | .periodEnd | .commitStart | .grant | .memoryAnswer _
  | .accessTimeout | .lateAnswer _ | .fullResetComplete | .idleTimerRunOut | .linkTransactionStart
  | .requestFrameDecided _ | .requestDropped | .collect | .ssnRises _ _ => none

/-! ### Laws of single blocks -/

/-- ATTN stands as R155 says. -/
abbrev State.attnLaw (s : State) : Prop := s.rep.attn = s.attnLevel

/-- The report queue holds at most 64 records, is full while records have been lost, and its sequence numbers run on without gaps up
to the sequence counter (R146, R148, R151). -/
abbrev ReportUnit.law (r : ReportUnit) : Prop :=
  r.queue.length ≤ 64 ∧ (r.lost ≠ 0 → r.queue.length = 64) ∧
    ∀ k : Fin r.queue.length, r.queue[k].seq + BitVec.ofNat 16 (r.queue.length - k.val) = r.nextSeq

/-- The settings stay in their ranges (R64, R130, R142), and the streak in 0..8 (R130). -/
abbrev State.rangeLaw (s : State) : Prop :=
  (1 ≤ s.rep.watermark.toNat ∧ s.rep.watermark.toNat ≤ 64) ∧ 1 ≤ s.rep.idleTime.toNat ∧ 1 ≤ s.arb.timeout.toNat ∧
    s.arb.streak ≤ 8 ∧ s.epoch.lineA.time.toNat ≤ 15 ∧ s.epoch.lineB.time.toNat ≤ 15 ∧ 2 ≤ s.epoch.active.toNat ∧
    s.epoch.pending.all (fun p => decide (2 ≤ p.toNat)) = true

/-- A qualifier is LOW exactly while its line is low (R65, R66), and a link transaction is in progress only while SSN is low (R158). -/
abbrev State.lineLaw (s : State) : Prop :=
  (s.epoch.lineA.state = .low ↔ s.pins.epochA = false) ∧ (s.epoch.lineB.state = .low ↔ s.pins.epochB = false) ∧
    (s.svc.link ≠ none → s.pins.ssn = true)

/-- A descriptor that WINDOW_SET accepts (R2, R6, R7). -/
abbrev Descriptor.valid (d : Descriptor) : Prop :=
  (d.base.toNat % 64 = 0 ∧ d.size.toNat % 64 = 0 ∧ 64 ≤ d.size.toNat ∧ d.size.toNat ≤ 16777216 ∧
    d.base.toNat + d.size.toNat ≤ 2 ^ 32) ∧
  ∀ h ∈ d.cls.fields,
    1 ≤ h.batchLimit.toNat ∧ h.batchLimit.toNat ≤ 64 ∧ ¬(h.closeMode = .onEpoch ∧ h.source = .immediate) ∧
      h.closing.all (fun a => decide (a.toNat % 4 = 0 ∧ d.base.toNat ≤ a.toNat ∧ a.toNat + 4 ≤ d.base.toNat + d.size.toNat)) = true

/-- Every descriptor is valid, and no two installed windows share an address (R12, R13). -/
abbrev State.windowLaw (s : State) : Prop :=
  (∀ i : WIdx, ∀ d ∈ (s.win i).place.desc, d.valid) ∧
    ∀ i j : WIdx, i ≠ j → ∀ d ∈ (s.win i).place.desc, (s.win j).place.clashes d = false

/-- An entry list: no word twice, word addresses, and no empty lane mask (R18, R20). -/
abbrev goodEntries (es : List Entry) : Prop :=
  (es.map (·.addr)).Nodup ∧ ∀ e ∈ es, e.addr.toNat % 4 = 0 ∧ e.lanes.toList.any Option.isSome = true

/-- The batches of one window: good entry lists; at most four in the waiting list, each with entries; only the oldest of them other
than CLOSED; and a CLOSED batch has no stamp (R18, R20, R21, R24, R32). -/
abbrev Window.batchLaw (w : Window) : Prop :=
  goodEntries (openEntries w.openBatch) ∧ w.waiting.length ≤ 4 ∧
    (∀ b ∈ w.waiting, goodEntries b.entries ∧ b.entries ≠ [] ∧ (b.state = .closed → b.stamp = none)) ∧
    ∀ b ∈ w.waiting.tail, b.state = .closed

/-- The batches of every window. -/
abbrev State.batchLaw (s : State) : Prop := ∀ i : WIdx, (s.win i).batchLaw

/-- At most 256 staging entries are in use (R18). -/
abbrev State.capacityLaw (s : State) : Prop := s.inUse ≤ 256

/-- The HELD-only fields of an installed window. -/
def Place.heldFields (p : Place) : Option HeldFields := p.desc.bind (·.cls.fields)

/-- The write that the Update Port Unit holds, if it holds one (R58). -/
def UpdateState.heldWrite : UpdateState → Option StagedWrite
  | .held x _ _ => some x
  | .idle => none
  | .requested _ => none
  | .atMemory _ => none
  | .draining _ => none

/-- Only HELD windows have batches, none longer than the batch limit, and a held write is one of an installed HELD window under the
fields of its decode (R3, R7, R10, R24, R25). -/
abbrev State.holderLaw (s : State) : Prop :=
  (∀ i : WIdx, (s.win i).place.heldFields = none → (s.win i).openBatch = none ∧ (s.win i).waiting = []) ∧
    (∀ i : WIdx, ∀ h ∈ (s.win i).place.heldFields,
      (openEntries (s.win i).openBatch).length ≤ h.batchLimit.toNat ∧
        ∀ b ∈ (s.win i).waiting, b.entries.length ≤ h.batchLimit.toNat) ∧
    ∀ x ∈ s.upd.state.heldWrite, (s.win x.window).place.heldFields = some x.fields

/-! ### Laws of the engine, the slot and the arbiter -/

/-- A rollback resumed by WINDOW_CLEAR RETRY is in flight (R79, R112). -/
def Engine.resumed (e : Engine) : Bool := e.state == .rollingBack && e.inHand.isNone

/-- The slot is WORKING. -/
def Slot.isWorking : Slot → Bool
  | .working _ _ _ => true
  | .idle => false
  | .ready _ _ _ => false

/-- The slot is WORKING exactly while one of the three commands that take time is in flight, and never two of them are (R167,
R169). -/
abbrev State.slotLaw (s : State) : Prop :=
  s.svc.probe.isSome.toNat + s.engine.resumed.toNat + s.engine.fullReset.toNat = s.svc.slot.isWorking.toNat

/-- The place is FAULTED. -/
def Place.isFaulted : Place → Bool
  | .faulted _ => true
  | .active _ => false
  | .free => false

/-- No window but one, if one is named, has a batch COMMITTING or ROLLING_BACK. -/
abbrev State.atWorkOnly (who : Option WIdx) (s : State) : Prop :=
  ∀ i : WIdx, some i ≠ who → (s.win i).batchAtWork = none

/-- The one batch COMMITTING or ROLLING_BACK is the batch in hand. -/
abbrev State.handLaw (h : BatchInHand) (st : BatchState) (s : State) : Prop :=
  s.atWorkOnly (some h.window) ∧ (s.win h.window).batchAtWork.map (fun b => (b.state, b.id)) = some (st, h.id)

/-- No window is FAULTED. -/
abbrev State.noneFaulted (s : State) : Prop := ∀ i : WIdx, (s.win i).place.isFaulted = false

/-- A window is HELD and installed. -/
abbrev State.isHeldWindow (i : WIdx) (s : State) : Prop := (s.win i).place.heldFields ≠ none

/-- Commit queue entries are those of the QUEUED batches, one for a window (R80). -/
abbrev State.queueLaw (s : State) : Prop :=
  (s.engine.queue.map (·.1)).Nodup ∧
    (∀ q ∈ s.engine.queue, (s.win q.1).queuedBatch.map (·.id) = some q.2) ∧
    ∀ i : WIdx, (s.win i).queuedBatch ≠ none → i ∈ s.engine.queue.map (·.1)

/-- The cursor is inside the batch in hand, and the undo log has one record for each read-old access done (R79, R87, R89). -/
abbrev State.cursorLaw (h : BatchInHand) (s : State) : Prop :=
  ∃ c ∈ s.engine.cursor, ∃ b ∈ (s.win h.window).batchAtWork,
    c.index < b.entries.length ∧ h.written = c.index ∧
      s.engine.undo.map (·.addr) =
        (b.entries.take (c.index + (if c.step = .writeNew then 1 else 0))).map (·.addr)

/-- What an IDLE engine holds: nothing (R79, R100). -/
abbrev State.idleLaw (s : State) : Prop :=
  s.engine.inHand = none ∧ s.engine.cursor = none ∧ s.engine.undo = [] ∧ s.engine.context = none ∧
    s.atWorkOnly none ∧ s.noneFaulted

/-- What a COMMITTING engine holds (R79, R89, R100). -/
abbrev State.committingLaw (s : State) : Prop :=
  s.noneFaulted ∧ s.engine.context = none ∧ ∃ h ∈ s.engine.inHand, s.handLaw h .committing ∧ s.cursorLaw h

/-- What a ROLLING_BACK engine holds; a resumed rollback has no batch in hand (R79, R100, R112). -/
abbrev State.rollingBackLaw (s : State) : Prop :=
  s.noneFaulted ∧ s.engine.cursor = none ∧ s.engine.undo ≠ [] ∧ s.engine.undo.length ≤ 64 ∧
    ∃ c ∈ s.engine.context,
      (∀ h ∈ s.engine.inHand, c.window = h.window ∧ c.id = h.id ∧ s.handLaw h .rollingBack) ∧
        (s.engine.inHand = none → s.isHeldWindow c.window ∧ s.atWorkOnly none)

/-- What a HALTED engine holds: the residue and the fault context, whose window is the one FAULTED window (R79, R106, R107). -/
abbrev State.haltedLaw (s : State) : Prop :=
  s.engine.inHand = none ∧ s.engine.cursor = none ∧ s.engine.undo ≠ [] ∧ s.engine.undo.length ≤ 64 ∧ s.atWorkOnly none ∧
    ∃ c ∈ s.engine.context,
      s.isHeldWindow c.window ∧ (s.win c.window).queuedBatch = none ∧
        ∀ i : WIdx, (s.win i).place.isFaulted = true ↔ i = c.window

/-- What the Commit Engine holds in each of its states, and which window is FAULTED (R79, R80, R89, R100, R107). -/
abbrev State.engineLaw (s : State) : Prop :=
  s.queueLaw ∧ (s.engine.state = .idle → s.idleLaw) ∧ (s.engine.state = .committing → s.committingLaw) ∧
    (s.engine.state = .rollingBack → s.rollingBackLaw) ∧ (s.engine.state = .halted → s.haltedLaw)

/-- The port's access, if it was granted to this requester. -/
def Arbiter.onPort (a : Arbiter) (who : Requester) : Option BusRequest :=
  match a.port with
  | some p => if p.owner = who then some p.req else none
  | none => none

/-- The request that the Update Port Unit has waiting at the arbiter (R46). -/
def UpdateState.waits : UpdateState → Option BusRequest
  | .requested t => some t.req
  | .idle => none
  | .atMemory _ => none
  | .held _ _ _ => none
  | .draining _ => none

/-- The access that the Update Port Unit has on the memory port (R46). -/
def UpdateState.under : UpdateState → Option BusRequest
  | .atMemory t => some t.req
  | .draining t => some t.req
  | .idle => none
  | .requested _ => none
  | .held _ _ _ => none

/-- The request that the Cycle Port Unit has waiting at the arbiter (R117). -/
def CycleState.waits : CycleState → Option BusRequest
  | .requested t => some t.req
  | .idle => none
  | .atMemory _ => none
  | .held _ => none
  | .draining _ => none

/-- The access that the Cycle Port Unit has on the memory port (R117). -/
def CycleState.under : CycleState → Option BusRequest
  | .atMemory t => some t.req
  | .draining t => some t.req
  | .idle => none
  | .requested _ => none
  | .held _ => none

/-- The engine is at work: COMMITTING or ROLLING_BACK. -/
def Engine.atWork (e : Engine) : Bool := e.state == .committing || e.state == .rollingBack

/-- Each requester has at most one request waiting or on the port, and its own state says which (R46, R117, R131). -/
abbrev State.requestLaw (s : State) : Prop :=
  (s.arb.up = s.upd.state.waits ∧ s.arb.onPort .up = s.upd.state.under) ∧
    (s.arb.cp = s.cyc.state.waits ∧ s.arb.onPort .cp = s.cyc.state.under) ∧
    s.arb.ce.isSome.toNat + (s.arb.onPort .ce).isSome.toNat = s.engine.atWork.toNat ∧
    s.arb.sl.isSome.toNat + (s.arb.onPort .sl).isSome.toNat = s.svc.probe.isSome.toNat

/-- The read that the Cycle Port Unit holds, if it holds one (R117). -/
def CycleState.heldRead : CycleState → Option CycleTxn
  | .held t => some t
  | .idle => none
  | .requested _ => none
  | .atMemory _ => none
  | .draining _ => none

/-- A held cycle read is one of the window in hand (R117, R124, R126). -/
abbrev State.heldReadLaw (s : State) : Prop :=
  ∀ t ∈ s.cyc.state.heldRead, t.decode.heldWindow.isSome = true ∧ t.decode.heldWindow = s.inHandWindow

/-- The READY response frame that a link transaction shifts out, if it does. -/
def LinkPhase.readyFrame : LinkPhase → Option (List Byte)
  | .collecting frame true => some frame
  | .collecting _ false => none
  | .kindPending => none
  | .frameEnded => none

/-- While a READY response is shifted out, the slot still holds it (R164, R165, R166). -/
abbrev State.collectLaw (s : State) : Prop :=
  ∀ t ∈ s.svc.link, ∀ f ∈ t.phase.readyFrame, s.reasonResponse = true ∧ f = collectFrame s.svc.slot

/-- The laws that hold together: each rests on the others. -/
abbrev State.deviceLaw (s : State) : Prop :=
  s.windowLaw ∧ s.batchLaw ∧ s.holderLaw ∧ s.slotLaw ∧ s.collectLaw ∧ s.engineLaw ∧ s.requestLaw ∧ s.heldReadLaw

end Sys2Proof.Machine
end

