-- ==== Sys2Proof/Certificates/Slice0/Obligations.lean ====
section
/-! DEFINITION. The statements for the provers, from the numbered rules of spec/. A next state is written out field by field,
so that a statement says what changes and that nothing else does. -/

open Sys2Proof Sys2Proof.Machine

/-- One step is the meaning of the front command on the state with the rest of the queue (log 1). -/
def Obligations.StepRunsTheFrontCommand : Prop :=
  ∀ (c : Instr) (rest : List Instr) (s : State),
    step { s with pending := c :: rest } = exec c { s with pending := rest }

/-- The model's choice for an empty queue (log 2): what is owed, a due event in a fixed order, or one microsecond; each condition
    spelled out. -/
def Obligations.EmptyQueueRunsTheDevice : Prop :=
  (∀ (n : Nat) (s : State),
      s.pins.resetn = true → s.elapse n = s) ∧
  (∀ (s : State),
      s.pending = [] → s.pins.resetn = true → step s = .next s.judgeAttn) ∧
  (∀ (s : State),
      s.pending = [] → s.pins.resetn = false → s.owes = true → step s = .next s.settle.judgeAttn) ∧
  (∀ (s : State),
      s.pending = [] → s.settled →
      step s =
        (if s.timeoutDue then exec .accessTimeout s
        else if s.holdDue then exec .writeHoldExpired s
        else if s.epoch.lineA.due then exec (.pulseAccepted .a) s
        else if s.epoch.lineB.due then exec (.pulseAccepted .b) s
        else if s.epoch.periodDue then exec .periodEnd s
        else if s.rep.idleDue then exec .idleTimerRunOut s
        else if s.grantDue then exec .grant s
        else if s.commitDue then exec .commitStart s
        else .next (s.elapse 1).judgeAttn)) ∧
  (∀ (s : State),
      (s.owes = true ↔ s.reconsiderDue = true ∨ s.fullResetDue = true ∨ s.updateTakeDue = true ∨ s.cycleTakeDue = true) ∧
        (s.reconsiderDue = true ↔ ∃ w f t, s.upd.state = .held w f t ∧
          ((f = .stagingEntry ∧ s.inUse < 256) ∨ (f = .listRoom ∧ (s.win w.window).waiting.length < 4))) ∧
        (s.fullResetDue = true ↔ s.engine.fullReset = true ∧ (s.engine.state = .idle ∨ s.engine.state = .halted)) ∧
        (s.updateTakeDue = true ↔
          s.upd.waiting ≠ [] ∧ s.upd.state = .idle ∧ s.pins.urstn = false ∧ s.pins.resetn = false) ∧
        (s.cycleTakeDue = true ↔
          s.cyc.waiting ≠ [] ∧ s.cyc.state = .idle ∧ s.pins.crstn = false ∧ s.pins.resetn = false)) ∧
  (∀ (s : State),
      (s.timeoutDue = true ↔ ∃ p, s.arb.port = some p ∧ p.timeout.toNat ≤ p.elapsed) ∧
        (s.holdDue = true ↔ ∃ w f t, s.upd.state = .held w f t ∧ t.limit.toNat ≤ t.elapsed) ∧
        (∀ q : Qualifier, q.due = true ↔ ∃ time k, q.state = .qualifying time k ∧ time.toNat ≤ k) ∧
        (s.epoch.periodDue = true ↔ s.epoch.mode ≠ .off ∧ s.epoch.active.toNat ≤ s.epoch.count.toNat) ∧
        (s.rep.idleDue = true ↔ s.rep.idleRunOut = false ∧ s.rep.idleTime.toNat * 100 ≤ s.rep.idleElapsed) ∧
        (s.grantDue = true ↔
          s.arb.port = none ∧ (s.arb.cp ≠ none ∨ s.arb.ce ≠ none ∨ s.arb.up ≠ none ∨ s.arb.sl ≠ none)) ∧
        (s.commitDue = true ↔
          s.engine.state = .idle ∧ s.engine.gate = .opened ∧ s.engine.fullReset = false ∧ s.engine.queue ≠ []))

/-- No command stops the device, and none touches the queue (log 14). -/
def Obligations.EveryCommandAnswersNext : Prop :=
  ∀ (c : Instr) (s : State),
    ∃ t, exec c s = .next t ∧ t.pending = s.pending

/-- What an event owes is done before the next event acts, and in this order (log 1, log 2, log 10). -/
def Obligations.OwedWorkComesFirst : Prop :=
  (∀ (s : State),
      s.pins.resetn = false → s.settle.settled) ∧
  (∀ (c : Instr) (s : State),
      s.pins.resetn = false → c ≠ .resetnDeasserted → c ≠ .heldWriteReconsidered → c ≠ .fullResetComplete →
      (∀ ans, c ≠ .lateAnswer ans) → exec c s = exec c s.settle) ∧
  (∀ (s : State),
      s.owes = false → s.settle = s) ∧
  (∀ (s : State),
      s.pins.resetn = false → s.reconsiderDue = true →
      exec .heldWriteReconsidered s = .next s.reconsider.judgeAttn ∧ s.settle = s.reconsider.settle) ∧
  (∀ (s : State),
      s.pins.resetn = false → s.reconsiderDue = false → s.fullResetDue = true →
      exec .fullResetComplete s = .next (s.completeReset true).judgeAttn ∧ s.settle = (s.completeReset true).settle) ∧
  (∀ (r : BusRequest) (rest : List BusRequest) (s : State),
      s.reconsiderDue = false → s.fullResetDue = false → s.updateTakeDue = true → s.upd.waiting = r :: rest →
      s.settle = State.settle (State.takeUpdate r { s with upd := { s.upd with waiting := rest } })) ∧
  (∀ (r : BusRequest) (rest : List BusRequest) (s : State),
      s.reconsiderDue = false → s.fullResetDue = false → s.updateTakeDue = false → s.cycleTakeDue = true →
      s.cyc.waiting = r :: rest → s.settle = State.settle (State.takeCycle r { s with cyc := { s.cyc with waiting := rest } })) ∧
  (∀ (r : BusRequest) (s : State),
      s.takesUpdates → exec (.updateTransactionTaken r) s = .next (s.takeUpdate r).judgeAttn) ∧
  (∀ (r : BusRequest) (s : State),
      s.takesCycles → exec (.cycleTransactionTaken r) s = .next (s.takeCycle r).judgeAttn)

/-- Power-on values of every block (log 1, log 7, log 8, log 20 for what the spec leaves open). -/
def Obligations.PowerOnReset : Prop :=
  (∀ (s : State),
      exec .powerOnReset s = .next
      { pins := { s.pins with resetn := true }
        windows := Vector.replicate 16 ⟨.free, ⟨0, 0, 0, 0, 0⟩, none, []⟩
        store := ⟨0, 2000⟩
        upd := ⟨.idle, none, s.settle.upd.waiting⟩
        cyc := ⟨.idle, none, s.settle.cyc.waiting⟩
        epoch := ⟨⟨if s.pins.epochA then .high else .low, 2⟩, ⟨if s.pins.epochB then .high else .low, 2⟩,
          .off, 1000, none, 0, 0, 0, 0, 0⟩
        engine := ⟨.idle, .opened, [], none, none, [], none, 0, false⟩
        arb := ⟨none, none, none, none, none, 0, 50⟩
        rep := ⟨[], 0, 0, 0, 16, 10, 0, false, false⟩
        svc := ⟨.idle, 0, none, none⟩
        pending := s.pending }) ∧
  (State.reset =
      { pins := ⟨false, false, false, false, false, false⟩
        windows := Vector.replicate 16 ⟨.free, ⟨0, 0, 0, 0, 0⟩, none, []⟩
        store := ⟨0, 2000⟩
        upd := ⟨.idle, none, []⟩
        cyc := ⟨.idle, none, []⟩
        epoch := ⟨⟨.low, 2⟩, ⟨.low, 2⟩, .off, 1000, none, 0, 0, 0, 0, 0⟩
        engine := ⟨.idle, .opened, [], none, none, [], none, 0, false⟩
        arb := ⟨none, none, none, none, none, 0, 50⟩
        rep := ⟨[], 0, 0, 0, 16, 10, 0, false, false⟩
        svc := ⟨.idle, 0, none, none⟩
        pending := [] })

/-- R66, and what the lines do under an asserted RESETN (log 19). RESETN rising on a line that is deasserted already is log 4. -/
def Obligations.ResetLineAndTheOtherLines : Prop :=
  (∀ (s : State),
      s.pins.resetn = true →
      exec .resetnDeasserted s = .next (State.judgeAttn { s with
        pins := { s.pins with resetn := false }
        epoch := { s.epoch with
          lineA := ⟨if s.pins.epochA then .high else .low, s.epoch.lineA.time⟩
          lineB := ⟨if s.pins.epochB then .high else .low, s.epoch.lineB.time⟩ } })) ∧
  (∀ (s : State),
      s.pins.resetn = false → exec .resetnDeasserted s = .next s) ∧
  (∀ (s : State),
      s.pins.resetn = true →
      exec .urstnAsserted s = .next { s with pins := { s.pins with urstn := true } } ∧
        exec .urstnDeasserted s = .next { s with pins := { s.pins with urstn := false } } ∧
        exec .crstnAsserted s = .next { s with pins := { s.pins with crstn := true } } ∧
        exec .crstnDeasserted s = .next { s with pins := { s.pins with crstn := false } } ∧
        exec .linkTransactionStart s = .next { s with pins := { s.pins with ssn := true } }) ∧
  (∀ (s : State) (line : EpochLine),
      s.pins.resetn = true →
      exec (.qualifyStart line) s = .next ((s.setLevel line true).setQualifier line .high) ∧
        exec (.pulseDropped line) s = .next ((s.setLevel line false).setQualifier line .low)) ∧
  (∀ (s : State) (received : List Byte) (bits : List Bool),
      s.pins.resetn = true →
      exec (.ssnRises received bits) s = .next { s with pins := { s.pins with ssn := false }, svc := { s.svc with link := none } }) ∧
  (∀ (s : State) (c : Instr),
      s.pins.resetn = true → (requestOf c).isSome = true → exec c s = .next s) ∧
  (∀ (s : State) (c : Instr),
      s.pins.resetn = true →
      c ∈ [Instr.heldWriteReconsidered, .writeHoldExpired, .pulseAccepted .a, .pulseAccepted .b, .periodEnd, .commitStart, .grant,
      .accessTimeout, .fullResetComplete, .idleTimerRunOut, .requestDropped, .collect] →
      exec c s = .next s) ∧
  (∀ (s : State) (ans : MemAnswer) (frame : List Byte),
      s.pins.resetn = true → exec (.memoryAnswer ans) s = .next s ∧ exec (.requestFrameDecided frame) s = .next s)

/-- R43, R60, R61, R96 and R127: the two port-side resets. -/
def Obligations.PortSideResets : Prop :=
  (∀ (s : State),
      s.settled → s.pins.urstn = false →
      exec .urstnAsserted s = .next (State.judgeAttn { s with
        pins := { s.pins with urstn := true }
        windows := s.windowsKept
        upd := { s.upd with state := match s.upd.state with
          | .idle => .idle
          | .requested _ => .idle
          | .atMemory t => .draining t
          | .held _ _ _ => .idle
          | .draining t => .draining t }
        arb := { s.arb with up := match s.upd.state with
          | .requested _ => none
          | _ => s.arb.up }
        engine := { s.engine with queue := [] }
        rep := s.rep.take (.resetDiscard .updateReset s.discarded) })) ∧
  (∀ (s : State),
      s.settled → s.pins.urstn = true → exec .urstnAsserted s = .next s.judgeAttn) ∧
  (∀ (s : State),
      s.settled → exec .urstnDeasserted s = .next (State.judgeAttn { s with pins := { s.pins with urstn := false } })) ∧
  (∀ (s : State),
      s.settled → s.pins.crstn = false →
      exec .crstnAsserted s = .next (State.judgeAttn { s with
        pins := { s.pins with crstn := true }
        cyc := { s.cyc with state := match s.cyc.state with
          | .idle => .idle
          | .requested _ => .idle
          | .atMemory t => .draining t
          | .held _ => .idle
          | .draining t => .draining t }
        arb := { s.arb with cp := match s.cyc.state with
          | .requested _ => none
          | _ => s.arb.cp } })) ∧
  (∀ (s : State),
      s.settled → s.pins.crstn = true → exec .crstnAsserted s = .next s.judgeAttn) ∧
  (∀ (s : State),
      s.settled → exec .crstnDeasserted s = .next (State.judgeAttn { s with pins := { s.pins with crstn := false } }))

/-- R44, R96 and R176. -/
def Obligations.PartResetBatches : Prop :=
  ∀ (s : State) (tag : Byte),
    s.takesCommands →
    exec (.partResetBatches tag) s = .next (State.answered tag .ok [BitVec.ofNat 8 s.discarded] { s with
      windows := s.windowsKept
      upd := match s.upd.state with
        | .held _ _ _ => { s.upd with state := .idle, answer := some .fault }
        | _ => s.upd
      engine := { s.engine with queue := [] }
      rep := s.rep.take (.resetDiscard .serviceBatches s.discarded) })

/-- R177 and R178: a full reset at once, pending, and at its completion, a due reconsideration first (log 10); the row with
    neither due is log 4. -/
def Obligations.PartResetFull : Prop :=
  (∀ (s : State) (tag : Byte),
      s.takesCommands → (s.engine.state = .idle ∨ s.engine.state = .halted) →
      exec (.partResetFull tag) s = .next (State.answered tag .ok [0x00, s.engine.state.code] s.fullyReset)) ∧
  (∀ (s : State) (tag : Byte),
      s.takesCommands → (s.engine.state = .committing ∨ s.engine.state = .rollingBack) →
      exec (.partResetFull tag) s = .next (State.working tag 0x7F [0x02] { s with engine := { s.engine with fullReset := true } })) ∧
  (∀ (s : State) (tag code : Byte) (payload : List Byte),
      s.pins.resetn = false → s.reconsiderDue = false → s.engine.fullReset = true →
      (s.engine.state = .idle ∨ s.engine.state = .halted) → s.svc.slot = .working tag code payload →
      exec .fullResetComplete s = .next (State.judgeAttn { s.fullyReset with
        svc := { s.svc with dropped := 0, slot := .ready tag .ok [0x01, s.engine.state.code] } })) ∧
  (∀ (s u : State),
      s.pins.resetn = false → s.reconsiderDue = true → exec .heldWriteReconsidered s = .next u →
      u.reconsiderDue = false ∧ exec .fullResetComplete s = exec .fullResetComplete u) ∧
  (∀ (s : State),
      s.pins.resetn = false → s.reconsiderDue = false →
      (s.engine.fullReset = false ∨ (s.engine.state ≠ .idle ∧ s.engine.state ≠ .halted)) →
      exec .fullResetComplete s = .next s.judgeAttn)

/-- R48. The MISALIGNED record has no window field (R10). -/
def Obligations.MisalignedUpdateTransaction : Prop :=
  (∀ (r : BusRequest) (s : State),
      s.takesUpdates → (reqAddr r).toNat % sizeBytes (reqSize r) ≠ 0 →
      exec (.updateTransactionTaken r) s = .next (State.judgeAttn { s with
        upd := ⟨.idle, some .fault, []⟩
        rep := s.rep.take (.misaligned .update (reqAddr r) (reqKind r)) })) ∧
  (∀ (r : BusRequest),
      reqSize r = .one → (reqAddr r).toNat % sizeBytes (reqSize r) = 0)

/-- R50, with the reasons of R49. -/
def Obligations.RefusedUpdateTransaction : Prop :=
  ∀ (r : BusRequest) (i : WIdx) (reason : DenyReason) (ua ca : Access) (tap : Tap) (h : HeldFields) (s : State),
    s.takesUpdates → (reqAddr r).toNat % sizeBytes (reqSize r) = 0 →
    ((s.decodeAddr (reqAddr r) = .pass i ua ca tap ∧ ua.permits (reqKind r) = false ∧ reason = .noAccess) ∨
    (s.decodeAddr (reqAddr r) = .held i ua ca tap h ∧ ua.permits (reqKind r) = false ∧ reason = .noAccess) ∨
    (s.decodeAddr (reqAddr r) = .faulted i ∧ reason = .faulted)) →
    exec (.updateTransactionTaken r) s = .next (State.judgeAttn { s.setWin i { s.win i with counters := { (s.win i).counters with
        accessesDenied := satInc (s.win i).counters.accessesDenied } } with
      upd := ⟨.idle, some .fault, []⟩
      rep := s.rep.take (.accessDenied .update (reqAddr r) (reqKind r) i reason) })

/-- R51, R52 and R56: what taking a permitted access does. -/
def Obligations.PlacedUpdateAccess : Prop :=
  (∀ (r : BusRequest) (i : WIdx) (ua ca : Access) (tap : Tap) (d : Decode) (s : State),
      s.takesUpdates → (reqAddr r).toNat % sizeBytes (reqSize r) = 0 → s.decodeAddr (reqAddr r) = d →
      (d = .unmapped ∨ (d = .pass i ua ca tap ∧ ua.permits (reqKind r) = true)) →
      exec (.updateTransactionTaken r) s = .next (State.judgeAttn { s with
        upd := ⟨.requested ⟨r, d, List.replicate (sizeBytes (reqSize r)) none⟩, none, []⟩
        arb := { s.arb with up := some r } })) ∧
  (∀ (a : Word) (size : Size) (i : WIdx) (ua ca : Access) (tap : Tap) (h : HeldFields) (staged : List (Option Byte)) (s : State),
      s.takesUpdates → a.toNat % sizeBytes size = 0 → s.decodeAddr a = .held i ua ca tap h → ua.permits .read = true →
      readLanes a size ((s.win i).viewWord (wordAddr a)) = staged →
      exec (.updateTransactionTaken (.read a size)) s = .next (State.judgeAttn (if staged.all Option.isSome then
          { s with upd := ⟨.idle, some (.done (staged.map fun b => b.getD 0)), []⟩ }
        else { s with
          upd := ⟨.requested ⟨.read a size, .held i ua ca tap h, staged⟩, none, []⟩
          arb := { s.arb with up := some (.read a size) } })))

/-- R20, R25 and R26: an accepted write. -/
def Obligations.StagedWriteAccepted : Prop :=
  ∀ (a : Word) (d : WriteData) (i : WIdx) (ca : Access) (tap : Tap) (h : HeldFields) (id : Half) (es : List Entry) (s : State),
    s.takesStaged a d i ca tap h → h.closing ≠ some (wordAddr a) → s.batchFor i = some (id, es) →
    ((es.any fun e => e.addr == wordAddr a) = true ∨ (es.length < h.batchLimit.toNat ∧ s.inUse < 256)) →
    exec (.updateTransactionTaken (.write a d)) s =
        .next (State.judgeAttn { s.slotFilled i (.gathering id (entriesWith (wordAddr a) (writeLanes a d) es)) with
      upd := ⟨.idle, some (.done []), []⟩
      rep := if tap = .off then s.rep else s.rep.take (.tap .update a d) })

/-- R27. The premise on the closing address is R33 step 3, which comes before R25. -/
def Obligations.StagedWriteAtTheBatchLimit : Prop :=
  (∀ (a : Word) (d : WriteData) (i : WIdx) (ca : Access) (tap : Tap) (h : HeldFields) (id : Half) (es : List Entry) (s : State),
      s.takesStaged a d i ca tap h → (h.closing = some (wordAddr a) → (s.win i).waiting.length < 4) →
      (s.win i).openBatch = some (.gathering id es) → (es.any fun e => e.addr == wordAddr a) = false →
      h.batchLimit.toNat ≤ es.length →
      exec (.updateTransactionTaken (.write a d)) s = .next (State.judgeAttn { s.setWin i { s.win i with
          openBatch := some (.spoiled id .batchLimit)
          counters := { (s.win i).counters with batchesSpoiled := satInc (s.win i).counters.batchesSpoiled } } with
        upd := ⟨.idle, some .fault, []⟩
        rep := s.rep.take (.batchSpoiled i id .batchLimit) })) ∧
  (∀ (a : Word) (d : WriteData) (i : WIdx) (ca : Access) (tap : Tap) (h : HeldFields) (id : Half) (es : List Entry) (s : State),
      s.takesStaged a d i ca tap h → h.closing ≠ some (wordAddr a) → (s.win i).openBatch = some (.gathering id es) →
      (es.any fun e => e.addr == wordAddr a) = true → h.batchLimit.toNat ≤ es.length →
      exec (.updateTransactionTaken (.write a d)) s = .next (State.judgeAttn { s.setWin i { s.win i with openBatch := some (.gathering id
          (es.map fun e => if e.addr = wordAddr a then ⟨e.addr, overlay (writeLanes a d) e.lanes⟩ else e)) } with
        upd := ⟨.idle, some (.done []), []⟩
        rep := if tap = .off then s.rep else s.rep.take (.tap .update a d) })) ∧
  (∀ (a : Word) (d : WriteData) (i : WIdx) (ca : Access) (tap : Tap) (h : HeldFields) (id : Half) (es : List Entry) (s : State),
      s.takesStaged a d i ca tap h → h.closing = some (wordAddr a) → (s.win i).waiting.length < 4 →
      (s.win i).openBatch = some (.gathering id es) → (es.any fun e => e.addr == wordAddr a) = true →
      h.batchLimit.toNat ≤ es.length →
      ∃ t, exec (.updateTransactionTaken (.write a d)) s = .next t ∧ t.upd.answer = some (.done []))

/-- R28. The premise on the closing address is R33 step 3, which comes before R25. -/
def Obligations.StagedWriteAtTheFullStore : Prop :=
  (∀ (a : Word) (d : WriteData) (i : WIdx) (ca : Access) (tap : Tap) (h : HeldFields) (id : Half) (es : List Entry) (s : State),
      s.takesStaged a d i ca tap h → (h.closing = some (wordAddr a) → (s.win i).waiting.length < 4) →
      s.batchFor i = some (id, es) → (es.any fun e => e.addr == wordAddr a) = false → es.length < h.batchLimit.toNat →
      256 ≤ s.inUse → (∃ j : WIdx, (s.win j).waiting ≠ []) → s.store.writeHoldLimit ≠ 0 →
      exec (.updateTransactionTaken (.write a d)) s = .next (State.judgeAttn { s.slotFilled i (.gathering id es) with
        upd := ⟨.held ⟨a, d, i, tap, h⟩ .stagingEntry ⟨s.store.writeHoldLimit, 0⟩, none, []⟩ })) ∧
  (∀ (a : Word) (d : WriteData) (i : WIdx) (ca : Access) (tap : Tap) (h : HeldFields) (id : Half) (es : List Entry) (s : State),
      s.takesStaged a d i ca tap h → (h.closing = some (wordAddr a) → (s.win i).waiting.length < 4) →
      s.batchFor i = some (id, es) → (es.any fun e => e.addr == wordAddr a) = false → es.length < h.batchLimit.toNat →
      256 ≤ s.inUse → ((∀ j : WIdx, (s.win j).waiting = []) ∨ s.store.writeHoldLimit = 0) →
      exec (.updateTransactionTaken (.write a d)) s = .next (State.judgeAttn { s.setWin i { s.win i with
          openBatch := some (.spoiled id .storeFull)
          counters := { (s.win i).counters with batchesSpoiled := satInc (s.win i).counters.batchesSpoiled } } with
        store := s.storeFor i
        upd := ⟨.idle, some .fault, []⟩
        rep := s.rep.take (.batchSpoiled i id .storeFull) }))

/-- R30, R31, R33 and R34. -/
def Obligations.ClosingAndSpoiledWrites : Prop :=
  (∀ (a : Word) (d : WriteData) (i : WIdx) (ca : Access) (tap : Tap) (h : HeldFields) (id : Half) (es : List Entry) (s : State),
      s.takesStaged a d i ca tap h → h.closing = some (wordAddr a) → s.batchFor i = some (id, es) → (s.win i).waiting.length < 4 →
      ((es.any fun e => e.addr == wordAddr a) = true ∨ (es.length < h.batchLimit.toNat ∧ s.inUse < 256)) →
      exec (.updateTransactionTaken (.write a d)) s = .next (State.judgeAttn (State.queueImmediate i
        { s.setWin i { s.win i with
            openBatch := none
            waiting := (s.win i).waiting ++ [⟨id, entriesWith (wordAddr a)
                (writeLanes a d) es, .closed, .closingWrite, none⟩] } with
          store := s.storeFor i
          upd := ⟨.idle, some (.done []), []⟩
          rep := if tap = .off then s.rep else s.rep.take (.tap .update a d) }))) ∧
  (∀ (a : Word) (d : WriteData) (i : WIdx) (ca : Access) (tap : Tap) (h : HeldFields) (id : Half) (es : List Entry) (s : State),
      s.takesStaged a d i ca tap h → h.closing = some (wordAddr a) → s.batchFor i = some (id, es) → 4 ≤ (s.win i).waiting.length →
      s.store.writeHoldLimit ≠ 0 →
      exec (.updateTransactionTaken (.write a d)) s = .next (State.judgeAttn { s.slotFilled i (.gathering id es) with
        upd := ⟨.held ⟨a, d, i, tap, h⟩ .listRoom ⟨s.store.writeHoldLimit, 0⟩, none, []⟩ })) ∧
  (∀ (a : Word) (d : WriteData) (i : WIdx) (ca : Access) (tap : Tap) (h : HeldFields) (id : Half) (es : List Entry) (s : State),
      s.takesStaged a d i ca tap h → h.closing = some (wordAddr a) → s.batchFor i = some (id, es) → 4 ≤ (s.win i).waiting.length →
      s.store.writeHoldLimit = 0 →
      exec (.updateTransactionTaken (.write a d)) s = .next (State.judgeAttn { s.setWin i { s.win i with
          openBatch := some (.spoiled id .closeHoldExpired)
          counters := { (s.win i).counters with batchesSpoiled := satInc (s.win i).counters.batchesSpoiled } } with
        store := s.storeFor i
        upd := ⟨.idle, some .fault, []⟩
        rep := s.rep.take (.batchSpoiled i id .closeHoldExpired) })) ∧
  (∀ (a : Word) (d : WriteData) (i : WIdx) (ca : Access) (tap : Tap) (h : HeldFields) (id : Half) (cause : SpoilCause) (s : State),
      s.takesStaged a d i ca tap h → (s.win i).openBatch = some (.spoiled id cause) →
      exec (.updateTransactionTaken (.write a d)) s = .next (State.judgeAttn { s.setWin i { s.win i with
          openBatch := if h.closing = some (wordAddr a) then none else some (.spoiled id cause) } with
        upd := ⟨.idle, some .fault, []⟩ }))

/-- R29, R34 and R35; a SPOILED batch keeps its cause (R31, log 12). A reconsideration with no wait met is log 4, HOLD_EXPIRED at
    a reconsideration for list room log 17, the time an expiry lets pass log 3. -/
def Obligations.HeldWriteEnds : Prop :=
  (∀ (w : StagedWrite) (f : WaitsFor) (t : HoldTimer) (id : Half) (es : List Entry) (s : State),
      s.pins.resetn = false → s.upd.state = .held w f t →
      ((f = .stagingEntry ∧ s.inUse < 256) ∨ (f = .listRoom ∧ (s.win w.window).waiting.length < 4)) →
      s.batchFor w.window = some (id, es) → w.fields.closing ≠ some (wordAddr w.addr) →
      ((es.any fun e => e.addr == wordAddr w.addr) = true ∨ (es.length < w.fields.batchLimit.toNat ∧ s.inUse < 256)) →
      exec .heldWriteReconsidered s = .next (State.judgeAttn
        { s.slotFilled w.window (.gathering id (entriesWith (wordAddr w.addr) (writeLanes w.addr w.data) es)) with
          upd := ⟨.idle, some (.done []), s.upd.waiting⟩
          rep := if w.tap = .off then s.rep else s.rep.take (.tap .update w.addr w.data) })) ∧
  (∀ (w : StagedWrite) (f : WaitsFor) (t : HoldTimer) (id : Half) (es : List Entry) (s : State),
      s.pins.resetn = false → s.upd.state = .held w f t → ((f = .stagingEntry ∧ s.inUse < 256) ∨ f = .listRoom) →
      (s.win w.window).waiting.length < 4 → s.batchFor w.window = some (id, es) → w.fields.closing = some (wordAddr w.addr) →
      ((es.any fun e => e.addr == wordAddr w.addr) = true ∨ (es.length < w.fields.batchLimit.toNat ∧ s.inUse < 256)) →
      exec .heldWriteReconsidered s = .next (State.judgeAttn (State.queueImmediate w.window
        { s.setWin w.window { s.win w.window with
            openBatch := none
            waiting := (s.win w.window).waiting ++
              [⟨id, entriesWith (wordAddr w.addr) (writeLanes w.addr w.data) es, .closed, .closingWrite, none⟩] } with
          store := s.storeFor w.window
          upd := ⟨.idle, some (.done []), s.upd.waiting⟩
          rep := if w.tap = .off then s.rep else s.rep.take (.tap .update w.addr w.data) }))) ∧
  (∀ (w : StagedWrite) (t : HoldTimer) (id : Half) (es : List Entry) (s : State),
      s.pins.resetn = false → s.upd.state = .held w .stagingEntry t → s.inUse < 256 → 4 ≤ (s.win w.window).waiting.length →
      s.batchFor w.window = some (id, es) → w.fields.closing = some (wordAddr w.addr) →
      exec .heldWriteReconsidered s = .next (State.judgeAttn { s.slotFilled w.window (.gathering id es) with
        upd := { s.upd with state := .held w .listRoom t } })) ∧
  (∀ (w : StagedWrite) (t : HoldTimer) (id : Half) (es : List Entry) (s : State),
      s.pins.resetn = false → s.upd.state = .held w .listRoom t → (s.win w.window).waiting.length < 4 →
      s.batchFor w.window = some (id, es) → (es.any fun e => e.addr == wordAddr w.addr) = false →
      es.length < w.fields.batchLimit.toNat → 256 ≤ s.inUse → (∃ j : WIdx, (s.win j).waiting ≠ []) →
      exec .heldWriteReconsidered s = .next (State.judgeAttn { s.slotFilled w.window (.gathering id es) with
        upd := { s.upd with state := .held w .stagingEntry t } })) ∧
  (∀ (cause : SpoilCause) (w : StagedWrite) (f : WaitsFor) (t : HoldTimer) (id : Half) (es : List Entry) (s : State),
      s.pins.resetn = false → s.upd.state = .held w f t → ((f = .stagingEntry ∧ s.inUse < 256) ∨ f = .listRoom) →
      (s.win w.window).waiting.length < 4 → s.batchFor w.window = some (id, es) →
      (es.any fun e => e.addr == wordAddr w.addr) = false →
      ((w.fields.batchLimit.toNat ≤ es.length ∧ cause = .batchLimit) ∨
      (es.length < w.fields.batchLimit.toNat ∧ 256 ≤ s.inUse ∧ (∀ j : WIdx, (s.win j).waiting = []) ∧ cause = .holdExpired)) →
      exec .heldWriteReconsidered s = .next (State.judgeAttn
        { s.setWin w.window { s.win w.window with
            openBatch := some (.spoiled id cause)
            counters := { (s.win w.window).counters with
              batchesSpoiled := satInc (s.win w.window).counters.batchesSpoiled } } with
          store := s.storeFor w.window
          upd := ⟨.idle, some .fault, s.upd.waiting⟩
          rep := s.rep.take (.batchSpoiled w.window id cause) })) ∧
  (∀ (s : State),
      s.pins.resetn = false → s.reconsiderDue = false → exec .heldWriteReconsidered s = .next s.judgeAttn) ∧
  (∀ (w : StagedWrite) (f : WaitsFor) (t : HoldTimer) (id : Half) (es : List Entry) (s u : State),
      s.settled → s.upd.state = .held w f t → s.batchFor w.window = some (id, es) → u = s.elapse (t.limit.toNat - t.elapsed) →
      exec .writeHoldExpired s = .next (State.judgeAttn
        { u.setWin w.window { u.win w.window with
            openBatch := some (.spoiled id (if f = .stagingEntry then .holdExpired else .closeHoldExpired))
            counters := { (u.win w.window).counters with
              batchesSpoiled := satInc (u.win w.window).counters.batchesSpoiled } } with
          store := s.storeFor w.window
          upd := ⟨.idle, some .fault, s.upd.waiting⟩
          rep := u.rep.take (.batchSpoiled w.window id (if f = .stagingEntry then .holdExpired else .closeHoldExpired)) })) ∧
  (∀ (w : StagedWrite) (f : WaitsFor) (t : HoldTimer) (id : Half) (cause : SpoilCause) (s u : State),
      s.settled → s.upd.state = .held w f t → (s.win w.window).openBatch = some (.spoiled id cause) →
      u = s.elapse (t.limit.toNat - t.elapsed) →
      exec .writeHoldExpired s = .next (State.judgeAttn { u with upd := ⟨.idle, some .fault, s.upd.waiting⟩ }))

/-- R19, R20 and R41. -/
def Obligations.LanesAndUpdateView : Prop :=
  (∀ (a : Word) (d : WriteData) (k : Fin 4),
      a.toNat % sizeBytes (dataSize d) = 0 →
      laneAt (writeLanes a d) k.val =
        (if a.toNat % 4 ≤ k.val then (dataBytes d)[k.val - a.toNat % 4]? else none) ∧
      (wordAddr a).toNat = a.toNat - a.toNat % 4) ∧
  (∀ (a b : Word) (lanes : Quad (Option Byte)) (es : List Entry) (k : Fin 4),
      (es.map (·.addr)).Nodup →
      entryLane b k.val (entriesWith a lanes es) =
        if b = a then (laneAt lanes k.val <|> entryLane a k.val es) else entryLane b k.val es) ∧
  (∀ (w : Window) (a : Word) (k : Fin 4),
      w.viewLane a k.val =
        (entryLane a k.val (openEntries w.openBatch) <|> (w.waiting.reverse.findSome? fun b => entryLane a k.val b.entries))) ∧
  (∀ (w : Window) (a : Word),
      w.viewWord a = ⟨w.viewLane a 0, w.viewLane a 1, w.viewLane a 2, w.viewLane a 3⟩)

/-- R47 and R118: a request that cannot be taken yet waits (log 8). -/
def Obligations.RequestsWaitAtABusyPort : Prop :=
  (∀ (r : BusRequest) (s : State),
      s.settled → (s.upd.state ≠ .idle ∨ s.pins.urstn = true) →
      exec (.updateTransactionTaken r) s = .next (State.judgeAttn { s with upd := { s.upd with waiting := s.upd.waiting ++ [r] } })) ∧
  (∀ (r : BusRequest) (s : State),
      s.settled → (s.cyc.state ≠ .idle ∨ s.pins.crstn = true) →
      exec (.cycleTransactionTaken r) s = .next (State.judgeAttn { s with cyc := { s.cyc with waiting := s.cyc.waiting ++ [r] } })) ∧
  (∀ (r : BusRequest) (s : State),
      s.pins.resetn = true →
      exec (.updateTransactionTaken r) s = .next { s with upd := { s.upd with waiting := s.upd.waiting ++ [r] } } ∧
        exec (.cycleTransactionTaken r) s = .next { s with cyc := { s.cyc with waiting := s.cyc.waiting ++ [r] } })

/-- R120, with the reasons of R119, and the misaligned case of R118. -/
def Obligations.MisalignedAndRefusedCycleTransactions : Prop :=
  (∀ (r : BusRequest) (s : State),
      s.takesCycles → (reqAddr r).toNat % sizeBytes (reqSize r) ≠ 0 →
      exec (.cycleTransactionTaken r) s = .next (State.judgeAttn { s with
        cyc := ⟨.idle, some .fault, []⟩
        rep := s.rep.take (.misaligned .cycle (reqAddr r) (reqKind r)) })) ∧
  (∀ (r : BusRequest) (i : WIdx) (reason : DenyReason) (ua ca : Access) (tap : Tap) (h : HeldFields) (s : State),
      s.takesCycles → (reqAddr r).toNat % sizeBytes (reqSize r) = 0 →
      ((s.decodeAddr (reqAddr r) = .pass i ua ca tap ∧ ca.permits (reqKind r) = false ∧ reason = .noAccess) ∨
      (s.decodeAddr (reqAddr r) = .held i ua ca tap h ∧ reqKind r = .write ∧ reason = .heldWrite) ∨
      (s.decodeAddr (reqAddr r) = .held i ua ca tap h ∧ reqKind r = .read ∧ ca = .none ∧ reason = .noAccess) ∨
      (s.decodeAddr (reqAddr r) = .faulted i ∧ reason = .faulted)) →
      exec (.cycleTransactionTaken r) s = .next (State.judgeAttn { s.setWin i { s.win i with counters := { (s.win i).counters with
          accessesDenied := satInc (s.win i).counters.accessesDenied } } with
        cyc := ⟨.idle, some .fault, []⟩
        rep := s.rep.take (.accessDenied .cycle (reqAddr r) (reqKind r) i reason) }))

/-- R119, R121 and R124 to R126; a read is one of a window by its index alone, also after the index was installed anew (log 21). -/
def Obligations.PlacedOrHeldCycleAccess : Prop :=
  (∀ (r : BusRequest) (i : WIdx) (ua ca : Access) (tap : Tap) (h : HeldFields) (d : Decode) (s : State),
      s.takesCycles → (reqAddr r).toNat % sizeBytes (reqSize r) = 0 → s.decodeAddr (reqAddr r) = d →
      (d = .unmapped ∨ (d = .pass i ua ca tap ∧ ca.permits (reqKind r) = true) ∨
      (d = .held i ua ca tap h ∧ reqKind r = .read ∧ ca ≠ .none ∧ s.inHandWindow ≠ some i)) →
      exec (.cycleTransactionTaken r) s = .next (State.judgeAttn { s with
        cyc := ⟨.requested ⟨r, d⟩, none, []⟩
        arb := { s.arb with cp := some r } })) ∧
  (∀ (a : Word) (size : Size) (i : WIdx) (ua ca : Access) (tap : Tap) (h : HeldFields) (s : State),
      s.takesCycles → a.toNat % sizeBytes size = 0 → s.decodeAddr a = .held i ua ca tap h → ca ≠ .none → s.inHandWindow = some i →
      exec (.cycleTransactionTaken (.read a size)) s = .next (State.judgeAttn { s with cyc := ⟨.held ⟨.read a size, .held i ua ca tap h⟩, none, []⟩ })) ∧
  (∀ (i : WIdx) (t : CycleTxn) (s : State),
      s.cyc.state = .requested t → t.decode.heldWindow = some i →
      s.holdCycleRead i = { s with cyc := { s.cyc with state := .held t }, arb := { s.arb with cp := none } }) ∧
  (∀ (i : WIdx) (s : State),
      (∀ t, s.cyc.state = .requested t → t.decode.heldWindow ≠ some i) → s.holdCycleRead i = s) ∧
  (∀ (i : WIdx) (t : CycleTxn) (s : State),
      s.cyc.state = .held t → t.decode.heldWindow = some i →
      s.releaseCycleRead i = { s with cyc := { s.cyc with state := .requested t }, arb := { s.arb with cp := some t.req } } ∧
        s.faultCycleRead i = { s with cyc := { s.cyc with state := .idle, answer := some .fault } }) ∧
  (∀ (i : WIdx) (s : State),
      (∀ t, s.cyc.state = .held t → t.decode.heldWindow ≠ some i) → s.releaseCycleRead i = s ∧ s.faultCycleRead i = s)

/-- R65, edge by edge, for either line. An edge that the line cannot have is log 4. -/
def Obligations.QualifierEdges : Prop :=
  (∀ (line : EpochLine) (s : State),
      s.settled → s.pins.level line = false → (s.epoch.qualifier line).time = 0 →
      exec (.qualifyStart line) s = .next (State.judgeAttn (((s.setLevel line true).setQualifier line .high).acceptPulse line))) ∧
  (∀ (line : EpochLine) (s : State),
      s.settled → s.pins.level line = false → (s.epoch.qualifier line).time ≠ 0 →
      exec (.qualifyStart line) s =
          .next (State.judgeAttn ((s.setLevel line true).setQualifier line (.qualifying (s.epoch.qualifier line).time 0)))) ∧
  (∀ (line : EpochLine) (time : Byte) (k : Nat) (s : State),
      s.settled → s.pins.level line = true → (s.epoch.qualifier line).state = .qualifying time k → k < time.toNat →
      exec (.pulseDropped line) s = .next (State.judgeAttn ((s.setLevel line false).setQualifier line .low))) ∧
  (∀ (line : EpochLine) (s : State),
      s.settled → s.pins.level line = true → ((s.epoch.qualifier line).state = .high ∨ (s.epoch.qualifier line).state = .low) →
      exec (.pulseDropped line) s = .next (State.judgeAttn ((s.setLevel line false).setQualifier line .low))) ∧
  (∀ (line : EpochLine) (time : Byte) (k : Nat) (s : State),
      s.settled → s.pins.level line = true → (s.epoch.qualifier line).state = .qualifying time k → time.toNat ≤ k →
      exec (.pulseDropped line) s =
          .next (State.judgeAttn ((((s.setQualifier line .high).acceptPulse line).setLevel line false).setQualifier line .low))) ∧
  (∀ (line : EpochLine) (s : State),
      s.settled → s.pins.level line = true → exec (.qualifyStart line) s = .next s.judgeAttn) ∧
  (∀ (line : EpochLine) (s : State),
      s.settled → s.pins.level line = false → exec (.pulseDropped line) s = .next s.judgeAttn)

/-- R65, R67 and R69; the time that still lacks is log 3, a line that is not QUALIFYING log 4. -/
def Obligations.AcceptedPulse : Prop :=
  (∀ (line : EpochLine) (time : Byte) (elapsed : Nat) (s u : State),
      s.settled → (s.epoch.qualifier line).state = .qualifying time elapsed → u = s.elapse (time.toNat - elapsed) →
      exec (.pulseAccepted line) s = .next (State.judgeAttn ((u.setQualifier line .high).acceptPulse line))) ∧
  (∀ (line : EpochLine) (s : State),
      s.settled → ((s.epoch.qualifier line).state = .low ∨ (s.epoch.qualifier line).state = .high) →
      exec (.pulseAccepted line) s = .next s.judgeAttn) ∧
  (∀ (s : State),
      s.acceptPulse .b = State.deliver ⟨.lineB, s.epoch.epochsB + 1⟩
        { s with epoch := { s.epoch with epochsB := s.epoch.epochsB + 1 } }) ∧
  (∀ (s : State),
      s.epoch.mode ≠ .syncA →
      s.acceptPulse .a = State.deliver ⟨.lineA, s.epoch.epochsA + 1⟩
        { s with epoch := { s.epoch with epochsA := s.epoch.epochsA + 1 } }) ∧
  (∀ (s t : State),
      s.epoch.mode = .syncA →
      t = State.deliver ⟨.lineA, s.epoch.epochsA + 1⟩
      { s with epoch := { s.epoch with epochsA := s.epoch.epochsA + 1 } } →
      s.acceptPulse .a = State.deliver ⟨.timer, s.epoch.epochsTimer + 1⟩
        { t with epoch := { t.epoch with
          count := 0, active := s.epoch.pending.getD s.epoch.active, pending := none, epochsTimer := s.epoch.epochsTimer + 1 } })

/-- R68 and R70; the time that still lacks is log 3, the row in mode OFF log 4. -/
def Obligations.PeriodEnd : Prop :=
  (∀ (s u : State),
      s.settled → s.epoch.mode = .free → u = s.elapse (s.epoch.active.toNat - s.epoch.count.toNat) →
      exec .periodEnd s = .next (State.judgeAttn (State.deliver ⟨.timer, s.epoch.epochsTimer + 1⟩ { u with epoch := { u.epoch with
          count := 0, active := s.epoch.pending.getD s.epoch.active, pending := none, epochsTimer :=
              s.epoch.epochsTimer + 1 } }))) ∧
  (∀ (s u t : State),
      s.settled → s.epoch.mode = .syncA → u = s.elapse (s.epoch.active.toNat - s.epoch.count.toNat) →
      t = State.deliver ⟨.timer, s.epoch.epochsTimer + 1⟩ { u with epoch := { u.epoch with
        count := 0, active := s.epoch.pending.getD s.epoch.active, pending := none, epochsTimer := s.epoch.epochsTimer + 1 } } →
      exec .periodEnd s = .next (State.judgeAttn { t with
        epoch := { t.epoch with flywheel := satInc s.epoch.flywheel }
        rep := t.rep.take (.flywheel (s.epoch.epochsTimer + 1)) })) ∧
  (∀ (s : State),
      s.settled → s.epoch.mode = .off → exec .periodEnd s = .next s.judgeAttn)

/-- R73, R75, R76 and R80. -/
def Obligations.EpochDelivery : Prop :=
  (∀ (st : Stamp) (s : State),
      State.deliver st s = (List.finRange 16).foldl (State.deliverTo st) s) ∧
  (∀ (st : Stamp) (i : WIdx) (s : State),
      (s.win i).place.activeHeld.map (·.source) ≠ some (.epoch st.source) → State.deliverTo st s i = s) ∧
  (∀ (st : Stamp) (i : WIdx) (h : HeldFields) (b : WaitBatch) (ws : List WaitBatch) (s t : State),
      (s.win i).place.activeHeld = some h → h.source = .epoch st.source →
      t = (if h.closeMode = .onEpoch then s.epochClose st i else s) → (t.win i).waiting = b :: ws →
      (b :: ws).all (fun c => c.state == .closed) = true →
      State.deliverTo st s i =
        { t.setWin i { t.win i with waiting := { b with state := .queued, stamp := some st } :: ws } with
          engine := { t.engine with queue := t.engine.queue ++ [(i, b.id)] } }) ∧
  (∀ (st : Stamp) (i : WIdx) (h : HeldFields) (s t : State),
      (s.win i).place.activeHeld = some h → h.source = .epoch st.source →
      t = (if h.closeMode = .onEpoch then s.epochClose st i else s) → (t.win i).waiting.any (fun c => c.state != .closed) = true →
      (t.win i).waiting.any (fun c => c.state == .closed) = true →
      State.deliverTo st s i =
        { t.setWin i { t.win i with counters := { (t.win i).counters with
            epochOverruns := satInc (t.win i).counters.epochOverruns } } with
          rep := t.rep.take (.epochOverrun i st) }) ∧
  (∀ (st : Stamp) (i : WIdx) (h : HeldFields) (s t : State),
      (s.win i).place.activeHeld = some h → h.source = .epoch st.source →
      t = (if h.closeMode = .onEpoch then s.epochClose st i else s) →
      (t.win i).waiting.any (fun c => c.state == .closed) = false → State.deliverTo st s i = t)

/-- R74 and R92. -/
def Obligations.CloseStepAndImmediateQueueing : Prop :=
  (∀ (st : Stamp) (i : WIdx) (s : State),
      (s.win i).openBatch = none → s.epochClose st i = s) ∧
  (∀ (st : Stamp) (i : WIdx) (id : Half) (es : List Entry) (s : State),
      (s.win i).openBatch = some (.gathering id es) → es = [] → s.epochClose st i = s) ∧
  (∀ (st : Stamp) (i : WIdx) (id : Half) (es : List Entry) (s : State),
      (s.win i).openBatch = some (.gathering id es) → es ≠ [] → (s.win i).waiting.length < 4 →
      s.epochClose st i = s.setWin i { s.win i with
        openBatch := none, waiting := (s.win i).waiting ++ [⟨id, es, .closed, .epoch, none⟩] }) ∧
  (∀ (st : Stamp) (i : WIdx) (id : Half) (es : List Entry) (s : State),
      (s.win i).openBatch = some (.gathering id es) → es ≠ [] → 4 ≤ (s.win i).waiting.length →
      s.epochClose st i = { s with rep := s.rep.take (.closeDeferred i st) }) ∧
  (∀ (st : Stamp) (i : WIdx) (id : Half) (cause : SpoilCause) (s : State),
      (s.win i).openBatch = some (.spoiled id cause) → s.epochClose st i = s.setWin i { s.win i with openBatch := none }) ∧
  (∀ (i : WIdx) (b : WaitBatch) (ws : List WaitBatch) (s : State),
      (s.win i).place.activeHeld.map (·.source) = some .immediate → (s.win i).waiting = b :: ws →
      (b :: ws).all (fun c => c.state == .closed) = true →
      s.queueImmediate i =
        { s.setWin i { s.win i with waiting := { b with state := .queued, stamp := none } :: ws } with
          engine := { s.engine with queue := s.engine.queue ++ [(i, b.id)] } }) ∧
  (∀ (i : WIdx) (s : State),
      ((s.win i).place.activeHeld.map (·.source) ≠ some .immediate ∨ (s.win i).waiting = [] ∨
          (s.win i).waiting.any (fun c => c.state != .closed) = true) →
      s.queueImmediate i = s)

/-- R84 and R85; which cycle read is one of the window is decided by its index alone (log 21). -/
def Obligations.CommitStart : Prop :=
  (∀ (i : WIdx) (id : Half) (rest : List (WIdx × Half)) (b : WaitBatch) (ws : List WaitBatch) (e : Entry) (es : List Entry)
      (s : State),
      s.settled → s.engine.state = .idle → s.engine.gate = .opened → s.engine.fullReset = false →
      s.engine.queue = (i, id) :: rest → (s.win i).waiting = b :: ws → b.state = .queued →
      ws.all (fun c => c.state == .closed) = true → b.entries = e :: es →
      exec .commitStart s = .next (State.judgeAttn (State.placeCommit (.read e.addr .four) (State.holdCycleRead i
        { s.setWin i { s.win i with waiting := { b with state := .committing } :: ws } with
          engine := { s.engine with
            state := .committing, queue := rest, inHand := some ⟨i, id, 0⟩, cursor := some ⟨0, .readOld⟩ } })))) ∧
  (∀ (s : State),
      s.settled → (s.engine.state ≠ .idle ∨ s.engine.gate ≠ .opened ∨ s.engine.fullReset = true ∨ s.engine.queue = []) →
      exec .commitStart s = .next s.judgeAttn)

/-- R86, R87, R90 and R91. -/
def Obligations.CommitAccessDone : Prop :=
  (∀ (h : BatchInHand) (k : Nat) (b : WaitBatch) (ws : List WaitBatch) (e : Entry) (old : Quad Byte) (s : State),
      s.accessBy .ce → s.engine.state = .committing → s.engine.inHand = some h → s.engine.cursor = some ⟨k, .readOld⟩ →
      (s.win h.window).waiting = b :: ws → b.state = .committing → b.entries[k]? = some e →
      exec (.memoryAnswer (.done old)) s = .next (State.judgeAttn { s with
        arb := { s.arb with port := none, ce := some (.write e.addr (.four (e.lanes.l0.getD old.l0) (e.lanes.l1.getD old.l1)
          (e.lanes.l2.getD old.l2) (e.lanes.l3.getD old.l3))) }
        engine := { s.engine with
          undo := s.engine.undo ++ [⟨e.addr, old, ⟨e.lanes.l0.isSome, e.lanes.l1.isSome, e.lanes.l2.isSome, e.lanes.l3.isSome⟩⟩]
          cursor := some ⟨k, .writeNew⟩ } })) ∧
  (∀ (h : BatchInHand) (k : Nat) (b : WaitBatch) (ws : List WaitBatch) (e e2 : Entry) (old : Quad Byte) (s : State),
      s.accessBy .ce → s.engine.state = .committing → s.engine.inHand = some h → s.engine.cursor = some ⟨k, .writeNew⟩ →
      (s.win h.window).waiting = b :: ws → b.state = .committing → b.entries[k]? = some e → b.entries[k + 1]? = some e2 →
      exec (.memoryAnswer (.done old)) s = .next (State.judgeAttn { s with
        arb := { s.arb with port := none, ce := some (.read e2.addr .four) }
        engine := { s.engine with
          inHand := some { h with written := h.written + 1 }, cursor := some ⟨k + 1, .readOld⟩ } })) ∧
  (∀ (h : BatchInHand) (k : Nat) (b : WaitBatch) (ws : List WaitBatch) (e : Entry) (old : Quad Byte) (s : State),
      s.accessBy .ce → s.engine.state = .committing → s.engine.inHand = some h → s.engine.cursor = some ⟨k, .writeNew⟩ →
      (s.win h.window).waiting = b :: ws → b.state = .committing → b.entries[k]? = some e → b.entries[k + 1]? = none →
      exec (.memoryAnswer (.done old)) s = .next (State.judgeAttn (State.queueImmediate h.window (State.releaseCycleRead h.window
        { s.setWin h.window { s.win h.window with
            waiting := ws
            counters := { (s.win h.window).counters with commitsDone := satInc (s.win h.window).counters.commitsDone } } with
          arb := { s.arb with port := none }
          engine := { s.engine with
            state := .idle, inHand := none, cursor := none, undo := [], context := none, resumedWrites := 0 }
          rep := if (s.win h.window).place.desc.map (·.doneReports) = some true then
              s.rep.take (.batchDone h.window h.id b.entries.length b.stamp)
            else s.rep }))))

/-- R88, R100, R101 and R102, for ERROR and TIMEOUT alike. -/
def Obligations.CommitAccessFails : Prop :=
  (∀ (how : MemFailure) (h : BatchInHand) (c : Cursor) (b : WaitBatch) (ws : List WaitBatch) (e : Entry) (us : List UndoRecord)
      (r : UndoRecord) (s : State),
      s.accessBy .ce → s.engine.state = .committing → s.engine.inHand = some h → s.engine.cursor = some c →
      (s.win h.window).waiting = b :: ws → b.state = .committing → ws.all (fun w => w.state == .closed) = true →
      b.entries[c.index]? = some e → s.engine.undo = us ++ [r] →
      s.endAccess (.failed how) =
        { s.setWin h.window { s.win h.window with waiting := { b with state := .rollingBack } :: ws } with
          arb := { s.arb with port := none, ce := some (.write r.addr (.four r.old.l0 r.old.l1 r.old.l2 r.old.l3)) }
          engine := { s.engine with
            state := .rollingBack, cursor := none, context := some ⟨h.window, h.id, e.addr, c.step, 0⟩ } }) ∧
  (∀ (how : MemFailure) (h : BatchInHand) (c : Cursor) (b : WaitBatch) (ws : List WaitBatch) (e : Entry) (s : State),
      s.accessBy .ce → s.engine.state = .committing → s.engine.inHand = some h → s.engine.cursor = some c →
      (s.win h.window).waiting = b :: ws → b.state = .committing → ws.all (fun w => w.state == .closed) = true →
      b.entries[c.index]? = some e → s.engine.undo = [] →
      s.endAccess (.failed how) = (State.queueImmediate h.window (State.releaseCycleRead h.window
        { s.setWin h.window { s.win h.window with
            waiting := ws
            counters := { (s.win h.window).counters with
              batchesAborted := satInc (s.win h.window).counters.batchesAborted } } with
          arb := { s.arb with port := none }
          engine := { s.engine with
            state := .idle, inHand := none, cursor := none, undo := [], context := none, resumedWrites := 0 }
          rep := s.rep.take (.batchAborted h.window h.id e.addr c.step 0 .restored) })))

/-- R102, R103 and the completion of R113. -/
def Obligations.RollbackWriteDone : Prop :=
  (∀ (c : FaultContext) (us : List UndoRecord) (r r2 : UndoRecord) (data : Quad Byte) (s : State),
      s.accessBy .ce → s.engine.state = .rollingBack → s.engine.context = some c → s.engine.undo = us ++ [r, r2] →
      exec (.memoryAnswer (.done data)) s = .next (State.judgeAttn { s with
        arb := { s.arb with port := none, ce := some (.write r.addr (.four r.old.l0 r.old.l1 r.old.l2 r.old.l3)) }
        engine := { s.engine with
          undo := us ++ [r], context := some { c with rolledBack := c.rolledBack + 1 }
          resumedWrites := if s.engine.inHand = none then s.engine.resumedWrites + 1 else s.engine.resumedWrites } })) ∧
  (∀ (c : FaultContext) (h : BatchInHand) (b : WaitBatch) (ws : List WaitBatch) (r : UndoRecord) (data : Quad Byte) (s : State),
      s.accessBy .ce → s.engine.state = .rollingBack → s.engine.context = some c → s.engine.undo = [r] →
      s.engine.inHand = some h → (s.win h.window).waiting = b :: ws → b.state = .rollingBack →
      exec (.memoryAnswer (.done data)) s = .next (State.judgeAttn (State.queueImmediate h.window (State.releaseCycleRead h.window
        { s.setWin h.window { s.win h.window with
            waiting := ws
            counters := { (s.win h.window).counters with
              batchesAborted := satInc (s.win h.window).counters.batchesAborted } } with
          arb := { s.arb with port := none }
          engine := { s.engine with
            state := .idle, inHand := none, cursor := none, undo := [], context := none, resumedWrites := 0 }
          rep := s.rep.take (.batchAborted c.window c.id c.addr c.step (c.rolledBack + 1) .restored) })))) ∧
  (∀ (c : FaultContext) (tag code : Byte) (payload : List Byte) (r : UndoRecord) (data : Quad Byte) (s : State),
      s.accessBy .ce → s.engine.state = .rollingBack → s.engine.context = some c → s.engine.undo = [r] → s.engine.inHand = none →
      s.svc.slot = .working tag code payload →
      exec (.memoryAnswer (.done data)) s = .next (State.judgeAttn (State.releaseCycleRead c.window { s with
        arb := { s.arb with port := none }
        engine := { s.engine with
          state := .idle, inHand := none, cursor := none, undo := [], context := none, resumedWrites := 0 }
        rep := s.rep.take (.batchAborted c.window c.id c.addr c.step (c.rolledBack + 1) .restoredOnRetry)
        svc := { s.svc with slot := .ready tag .ok [BitVec.ofNat 8 (s.engine.resumedWrites + 1)] } })))

/-- R106 and the failure of R113, for ERROR and TIMEOUT alike. -/
def Obligations.RollbackWriteFails : Prop :=
  (∀ (how : MemFailure) (c : FaultContext) (h : BatchInHand) (d : Descriptor) (b : WaitBatch) (ws : List WaitBatch) (s : State),
      s.accessBy .ce → s.engine.state = .rollingBack → s.engine.context = some c → s.engine.inHand = some h →
      (s.win h.window).place = .active d → (s.win h.window).waiting = b :: ws → b.state = .rollingBack →
      s.endAccess (.failed how) = State.faultCycleRead h.window
        { s.setWin h.window { s.win h.window with
            place := .faulted d
            waiting := ws
            counters := { (s.win h.window).counters with
              batchesAborted := satInc (s.win h.window).counters.batchesAborted } } with
          arb := { s.arb with port := none }
          engine := { s.engine with state := .halted, inHand := none, cursor := none }
          rep := (s.rep.take (.batchAborted c.window c.id c.addr c.step c.rolledBack .incomplete)).take
            (.windowFaulted c.window c.id s.engine.undo.length) }) ∧
  (∀ (how : MemFailure) (c : FaultContext) (d : Descriptor) (tag code : Byte) (payload : List Byte) (s : State),
      s.accessBy .ce → s.engine.state = .rollingBack → s.engine.context = some c → s.engine.inHand = none →
      (s.win c.window).place = .active d → (s.win c.window).waiting.all (fun w => w.state == .closed) = true →
      s.svc.slot = .working tag code payload →
      s.endAccess (.failed how) = State.faultCycleRead c.window
        { s.setWin c.window { s.win c.window with place := .faulted d } with
          arb := { s.arb with port := none }
          engine := { s.engine with state := .halted, inHand := none, cursor := none }
          rep := s.rep.take (.windowFaulted c.window c.id s.engine.undo.length)
          svc := { s.svc with slot := .ready tag .memoryError [BitVec.ofNat 8 s.engine.undo.length] } }) ∧
  (∀ (how : MemFailure) (c : FaultContext) (d : Descriptor) (b : WaitBatch) (ws : List WaitBatch) (tag code : Byte)
      (payload : List Byte) (s : State),
      s.accessBy .ce → s.engine.state = .rollingBack → s.engine.context = some c → s.engine.inHand = none →
      (s.win c.window).place = .active d → (s.win c.window).waiting = b :: ws → b.state = .queued →
      s.svc.slot = .working tag code payload →
      s.endAccess (.failed how) = State.faultCycleRead c.window
        { s.setWin c.window { s.win c.window with place := .faulted d, waiting := ws } with
          arb := { s.arb with port := none }
          engine := { s.engine with
            state := .halted, inHand := none, cursor := none, queue := s.engine.queue.filter fun q => q.1 != c.window }
          rep := (s.rep.take (.batchDiscarded c.window b.id .cleared)).take (.windowFaulted c.window c.id s.engine.undo.length)
          svc := { s.svc with slot := .ready tag .memoryError [BitVec.ofNat 8 s.engine.undo.length] } })

/-- R133, row by row. A streak above 8 does not occur (R130). -/
def Obligations.ArbiterChoice : Prop :=
  (∀ (a : Arbiter) (r : BusRequest),
      a.cp = some r → a.ce = none → a.up = none → a.sl = none → a.choose = some (.cp, r, 0)) ∧
  (∀ (a : Arbiter) (r : BusRequest),
      a.cp = some r → (a.ce ≠ none ∨ a.up ≠ none ∨ a.sl ≠ none) → a.streak ≤ 7 → a.choose = some (.cp, r, a.streak + 1)) ∧
  (∀ (a : Arbiter) (r : BusRequest),
      (a.cp = none ∨ a.streak = 8) → a.ce = some r → a.choose = some (.ce, r, 0)) ∧
  (∀ (a : Arbiter) (r : BusRequest),
      (a.cp = none ∨ a.streak = 8) → a.ce = none → a.up = some r → a.choose = some (.up, r, 0)) ∧
  (∀ (a : Arbiter) (r : BusRequest),
      (a.cp = none ∨ a.streak = 8) → a.ce = none → a.up = none → a.sl = some r → a.choose = some (.sl, r, 0)) ∧
  (∀ (a : Arbiter),
      a.cp = none → a.ce = none → a.up = none → a.sl = none → a.choose = none) ∧
  (∀ (a : Arbiter) (who : Requester) (r : BusRequest) (k : Nat),
      a.streak ≤ 8 → a.choose = some (who, r, k) → k ≤ 8)

/-- R132, R134 and R136; the time a timeout lets pass is log 3, a grant or an end of access that the port cannot have log 4. The
    outcomes are handed on by State.endAccess, which other statements describe requester by requester. -/
def Obligations.GrantAndAccessEnd : Prop :=
  (∀ (r : BusRequest) (k : Nat) (t : CycleTxn) (s : State),
      s.settled → s.arb.port = none → s.arb.choose = some (.cp, r, k) → s.cyc.state = .requested t →
      exec .grant s = .next (State.judgeAttn { s with
        arb := { s.arb with cp := none, port := some ⟨r, .cp, s.arb.timeout, 0⟩, streak := k }
        cyc := { s.cyc with state := .atMemory t } })) ∧
  (∀ (r : BusRequest) (k : Nat) (t : UpdateTxn) (s : State),
      s.settled → s.arb.port = none → s.arb.choose = some (.up, r, k) → s.upd.state = .requested t →
      exec .grant s = .next (State.judgeAttn { s with
        arb := { s.arb with up := none, port := some ⟨r, .up, s.arb.timeout, 0⟩, streak := k }
        upd := { s.upd with state := .atMemory t } })) ∧
  (∀ (r : BusRequest) (k : Nat) (s : State),
      s.settled → s.arb.port = none → s.arb.choose = some (.ce, r, k) →
      exec .grant s = .next (State.judgeAttn { s with arb := { s.arb with ce := none, port := some ⟨r, .ce, s.arb.timeout, 0⟩, streak := k } })) ∧
  (∀ (r : BusRequest) (k : Nat) (s : State),
      s.settled → s.arb.port = none → s.arb.choose = some (.sl, r, k) →
      exec .grant s = .next (State.judgeAttn { s with arb := { s.arb with sl := none, port := some ⟨r, .sl, s.arb.timeout, 0⟩, streak := k } })) ∧
  (∀ (s : State),
      s.settled → (s.arb.port ≠ none ∨ s.arb.choose = none) → exec .grant s = .next s.judgeAttn) ∧
  (∀ (data : Quad Byte) (s : State),
      s.settled →
      exec (.memoryAnswer (.done data)) s = .next (s.endAccess (.done data)).judgeAttn ∧
        exec (.memoryAnswer .error) s = .next (s.endAccess (.failed .error)).judgeAttn) ∧
  (∀ (p : PortAccess) (s : State),
      s.settled → s.arb.port = some p →
      exec .accessTimeout s = .next ((s.elapse (p.timeout.toNat - p.elapsed)).endAccess (.failed .timeout)).judgeAttn) ∧
  (∀ (data : Quad Byte) (s : State),
      s.settled → s.arb.port = none →
      exec (.memoryAnswer (.done data)) s = .next s.judgeAttn ∧ exec (.memoryAnswer .error) s = .next s.judgeAttn ∧
        exec .accessTimeout s = .next s.judgeAttn) ∧
  (∀ (data : Quad Byte) (s : State),
      exec (.lateAnswer (.done data)) s = .next s ∧ exec (.lateAnswer .error) s = .next s)

/-- R51 to R53, R55, R56 and R61. -/
def Obligations.UpdateAccessEnds : Prop :=
  (∀ (t : UpdateTxn) (a : Word) (size : Size) (data : Quad Byte) (s : State),
      s.accessBy .up → s.upd.state = .atMemory t → t.req = .read a size →
      exec (.memoryAnswer (.done data)) s = .next (State.judgeAttn { s.portFreed with
        upd := ⟨.idle, some (.done (List.zipWith (fun staged memory => staged.getD memory) t.staged
          (([data.l0, data.l1, data.l2, data.l3] : List Byte).take (sizeBytes size)))), s.upd.waiting⟩ })) ∧
  (∀ (t : UpdateTxn) (a : Word) (d : WriteData) (data : Quad Byte) (s : State),
      s.accessBy .up → s.upd.state = .atMemory t → t.req = .write a d →
      exec (.memoryAnswer (.done data)) s = .next (State.judgeAttn { s.portFreed with
        upd := ⟨.idle, some (.done []), s.upd.waiting⟩
        rep := match t.decode with
          | .pass _ _ _ tap => if tap = .off then s.rep else s.rep.take (.tap .update a d)
          | _ => s.rep })) ∧
  (∀ (t : UpdateTxn) (how : MemFailure) (s : State),
      s.accessBy .up → s.upd.state = .atMemory t →
      s.endAccess (.failed how) = { s.portFreed with
        upd := ⟨.idle, some .fault, s.upd.waiting⟩
        rep := s.rep.take (.memoryError .up (wordAddr (reqAddr t.req)) how) }) ∧
  (∀ (t : UpdateTxn) (data : Quad Byte) (s : State),
      s.accessBy .up → s.upd.state = .draining t →
      exec (.memoryAnswer (.done data)) s = .next (State.judgeAttn { s.portFreed with upd := { s.upd with state := .idle } })) ∧
  (∀ (t : UpdateTxn) (how : MemFailure) (s : State),
      s.accessBy .up → s.upd.state = .draining t →
      s.endAccess (.failed how) = { s.portFreed with
        upd := { s.upd with state := .idle }
        rep := s.rep.take (.memoryError .up (wordAddr (reqAddr t.req)) how) })

/-- R121 to R123, R125 and R127; a read is one of the window in hand by its index alone (log 21). -/
def Obligations.CycleAccessEnds : Prop :=
  (∀ (t : CycleTxn) (i : WIdx) (a : Word) (size : Size) (data : Quad Byte) (s : State),
      s.accessBy .cp → s.cyc.state = .atMemory t → t.req = .read a size → t.decode.heldWindow = some i → s.inHandWindow = some i →
      exec (.memoryAnswer (.done data)) s = .next (State.judgeAttn { s.portFreed with cyc := { s.cyc with state := .held t } })) ∧
  (∀ (t : CycleTxn) (a : Word) (size : Size) (data : Quad Byte) (s : State),
      s.accessBy .cp → s.cyc.state = .atMemory t → t.req = .read a size →
      (t.decode.heldWindow = none ∨ t.decode.heldWindow ≠ s.inHandWindow) →
      exec (.memoryAnswer (.done data)) s = .next (State.judgeAttn { s.portFreed with
        cyc := ⟨.idle, some (.done (([data.l0, data.l1, data.l2, data.l3] : List Byte).take (sizeBytes size))), s.cyc.waiting⟩ })) ∧
  (∀ (t : CycleTxn) (a : Word) (d : WriteData) (data : Quad Byte) (s : State),
      s.accessBy .cp → s.cyc.state = .atMemory t → t.req = .write a d →
      exec (.memoryAnswer (.done data)) s = .next (State.judgeAttn { s.portFreed with
        cyc := ⟨.idle, some (.done []), s.cyc.waiting⟩
        rep := match t.decode with
          | .pass _ _ _ tap => if tap = .allWrites then s.rep.take (.tap .cycle a d) else s.rep
          | _ => s.rep })) ∧
  (∀ (t : CycleTxn) (how : MemFailure) (s : State),
      s.accessBy .cp → s.cyc.state = .atMemory t →
      s.endAccess (.failed how) = { s.portFreed with
        cyc := ⟨.idle, some .fault, s.cyc.waiting⟩
        rep := s.rep.take (.memoryError .cp (wordAddr (reqAddr t.req)) how) }) ∧
  (∀ (t : CycleTxn) (data : Quad Byte) (s : State),
      s.accessBy .cp → s.cyc.state = .draining t →
      exec (.memoryAnswer (.done data)) s = .next (State.judgeAttn { s.portFreed with cyc := { s.cyc with state := .idle } })) ∧
  (∀ (t : CycleTxn) (how : MemFailure) (s : State),
      s.accessBy .cp → s.cyc.state = .draining t →
      s.endAccess (.failed how) = { s.portFreed with
        cyc := { s.cyc with state := .idle }
        rep := s.rep.take (.memoryError .cp (wordAddr (reqAddr t.req)) how) })

/-- R138 to R141, for both views. -/
def Obligations.MemoryProbe : Prop :=
  (∀ (tag : Byte) (a : Word) (s : State),
      s.takesCommands → a.toNat % 4 ≠ 0 →
      exec (.memoryProbeMemory tag a) s = .next (State.answered tag .badArgument [] s) ∧
        exec (.memoryProbeUpdate tag a) s = .next (State.answered tag .badArgument [] s)) ∧
  (∀ (tag : Byte) (a : Word) (i : WIdx) (s : State),
      s.takesCommands → a.toNat % 4 = 0 → s.decodeAddr a = .faulted i →
      exec (.memoryProbeMemory tag a) s = .next (State.answered tag .faulted [] s) ∧
        exec (.memoryProbeUpdate tag a) s = .next (State.answered tag .faulted [] s)) ∧
  (∀ (tag : Byte) (a : Word) (d : Decode) (s : State),
      s.takesCommands → a.toNat % 4 = 0 → s.decodeAddr a = d → (∀ i, d ≠ .faulted i) →
      exec (.memoryProbeMemory tag a) s = .next (State.working tag 0x70 (be32 a ++ [0x01]) { s with
          svc := { s.svc with probe := some ⟨a, .memory, d, ⟨none, none, none, none⟩⟩ }
          arb := { s.arb with sl := some (.read a .four) } }) ∧
        (d.heldWindow = none →
          exec (.memoryProbeUpdate tag a) s = .next (State.working tag 0x70 (be32 a ++ [0x02]) { s with
            svc := { s.svc with probe := some ⟨a, .update, d, ⟨none, none, none, none⟩⟩ }
            arb := { s.arb with sl := some (.read a .four) } }))) ∧
  (∀ (tag : Byte) (a : Word) (d : Decode) (i : WIdx) (v : Quad (Option Byte)) (s : State),
      s.takesCommands → a.toNat % 4 = 0 → s.decodeAddr a = d → d.heldWindow = some i → v = (s.win i).viewWord a →
      exec (.memoryProbeUpdate tag a) s = .next
        (match v with
          | ⟨some b0, some b1, some b2, some b3⟩ =>
            State.answered tag .ok (be32 a ++ [0x02, BitVec.ofNat 8 i.val, 0x01, b0, b1, b2, b3, 0x0F]) s
          | _ => State.working tag 0x70 (be32 a ++ [0x02]) { s with
              svc := { s.svc with probe := some ⟨a, .update, d, v⟩ }
              arb := { s.arb with sl := some (.read a .four) } })) ∧
  (∀ (p : Probe) (tag code : Byte) (payload : List Byte) (data : Quad Byte) (s : State),
      s.accessBy .sl → s.svc.probe = some p → s.svc.slot = .working tag code payload →
      exec (.memoryAnswer (.done data)) s = .next (State.judgeAttn { s.portFreed with
        svc := { s.svc with
          probe := none
          slot := .ready tag .ok (be32 p.addr ++ p.view.code :: decodeBytes p.decode ++
            [p.staged.l0.getD data.l0, p.staged.l1.getD data.l1, p.staged.l2.getD data.l2, p.staged.l3.getD data.l3,
              laneByte ⟨p.staged.l0.isSome, p.staged.l1.isSome, p.staged.l2.isSome, p.staged.l3.isSome⟩]) } })) ∧
  (∀ (p : Probe) (tag code : Byte) (payload : List Byte) (how : MemFailure) (s : State),
      s.accessBy .sl → s.svc.probe = some p → s.svc.slot = .working tag code payload →
      s.endAccess (.failed how) = { s.portFreed with
        rep := s.rep.take (.memoryError .sl p.addr how)
        svc := { s.svc with
          probe := none
          slot := .ready tag .memoryError (be32 p.addr ++ p.view.code :: decodeBytes p.decode ++ [how.code]) } }) ∧
  (∀ (d : Decode),
      decodeBytes d = (match d with
        | .unmapped => ([0xFF, 0xFF] : List Byte)
        | .pass w _ _ _ => [BitVec.ofNat 8 w.val, 0x00]
        | .held w _ _ _ _ => [BitVec.ofNat 8 w.val, 0x01]
        | .faulted w => [BitVec.ofNat 8 w.val, 0x01]))

/-- R147, with the accepted case of R146. -/
def Obligations.RecordAcceptedOrDropped : Prop :=
  (∀ (r : ReportUnit) (b : RecordBody),
      r.queue.length < 64 →
      r.take b = { r with
        queue := r.queue ++ [⟨r.nextSeq, r.time, b⟩], nextSeq := r.nextSeq + 1, idleElapsed := 0, idleRunOut := false }) ∧
  (∀ (r : ReportUnit) (b : RecordBody),
      64 ≤ r.queue.length → r.take b = { r with lost := if r.lost = 65535 then 65535 else r.lost + 1 }) ∧
  (∀ (s : State) (b : RecordBody),
      s.record b = { s with rep := s.rep.take b }) ∧
  (∀ (r : ReportUnit) (bs : List RecordBody),
      r.queue.length ≤ 64 →
      (bs.foldl ReportUnit.take r).queue.map (·.body) = r.queue.map (·.body) ++ bs.take (64 - r.queue.length) ∧
        (bs.foldl ReportUnit.take r).lost.toNat = min 65535 (r.lost.toNat + (bs.length - (64 - r.queue.length))))

/-- R150 and R151, in the layout of R185, with the bytes of every kind of record (R186) and their codes (R181). -/
def Obligations.ReportsTake : Prop :=
  (∀ (tag : Byte) (s : State),
      s.takesCommands → s.rep.queue = [] →
      exec (.reportsTake tag) s = .next (State.answered tag .none ([0x00, 0x00] ++ be32 s.rep.time) s)) ∧
  (∀ (tag : Byte) (s : State),
      s.takesCommands → s.rep.queue ≠ [] → s.rep.lost = 0 →
      exec (.reportsTake tag) s = .next (State.answered tag .ok
        ([BitVec.ofNat 8 (s.rep.queue.take 3).length, BitVec.ofNat 8 (s.rep.queue.drop 3).length] ++ be32 s.rep.time ++
          (s.rep.queue.take 3).flatMap Record.bytes)
        { s with rep := { s.rep with queue := s.rep.queue.drop 3, idleElapsed := 0, idleRunOut := false } })) ∧
  (∀ (tag : Byte) (s : State),
      s.takesCommands → s.rep.queue ≠ [] → s.rep.lost ≠ 0 → s.rep.queue.length ≤ 64 →
      exec (.reportsTake tag) s = .next (State.answered tag .ok
        ([BitVec.ofNat 8 (s.rep.queue.take 3).length, BitVec.ofNat 8 ((s.rep.queue.drop 3).length + 1)] ++ be32 s.rep.time ++
          (s.rep.queue.take 3).flatMap Record.bytes)
        { s with rep := { s.rep with
          queue := s.rep.queue.drop 3 ++ [⟨s.rep.nextSeq, s.rep.time, .reportsLost s.rep.lost⟩]
          nextSeq := s.rep.nextSeq + 1, lost := 0, idleElapsed := 0, idleRunOut := false } })) ∧
  (∀ (r : Record),
      r.bytes =
        (match r.body with
          | .tap p a d => [0x01, BitVec.ofNat 8 (14 + sizeBytes (dataSize d))] ++ be16 r.seq ++ be32 r.time ++
              [p.code, BitVec.ofNat 8 (sizeBytes (dataSize d))] ++ be32 a ++ dataBytes d
          | .batchDone w id n st => [0x02, 15] ++ be16 r.seq ++ be32 r.time ++ [BitVec.ofNat 8 w.val] ++ be16 id ++
              [BitVec.ofNat 8 n] ++
              (match st with
                | some e => e.source.code :: be16 e.number
                | none => [0x04, 0x00, 0x00])
          | .batchAborted w id a step n o => [0x03, 18] ++ be16 r.seq ++ be32 r.time ++ [BitVec.ofNat 8 w.val] ++ be16 id ++
              be32 a ++ [step.code, BitVec.ofNat 8 n, o.code]
          | .batchSpoiled w id c => [0x04, 12] ++ be16 r.seq ++ be32 r.time ++ [BitVec.ofNat 8 w.val] ++ be16 id ++ [c.code]
          | .batchDiscarded w id c => [0x05, 12] ++ be16 r.seq ++ be32 r.time ++ [BitVec.ofNat 8 w.val] ++ be16 id ++ [c.code]
          | .epochOverrun w e => [0x06, 12] ++ be16 r.seq ++ be32 r.time ++ [BitVec.ofNat 8 w.val, e.source.code] ++
              be16 e.number
          | .closeDeferred w e => [0x07, 12] ++ be16 r.seq ++ be32 r.time ++ [BitVec.ofNat 8 w.val, e.source.code] ++
              be16 e.number
          | .accessDenied p a k w y => [0x08, 16] ++ be16 r.seq ++ be32 r.time ++
              [p.code, k.code, y.code, BitVec.ofNat 8 w.val] ++ be32 a
          | .misaligned p a k => [0x08, 16] ++ be16 r.seq ++ be32 r.time ++ [p.code, k.code, 0x04, 0xFF] ++ be32 a
          | .memoryError q a f => [0x09, 14] ++ be16 r.seq ++ be32 r.time ++ [q.code, f.code] ++ be32 a
          | .flywheel n => [0x0A, 10] ++ be16 r.seq ++ be32 r.time ++ be16 n
          | .windowFaulted w id n => [0x0B, 12] ++ be16 r.seq ++ be32 r.time ++ [BitVec.ofNat 8 w.val] ++ be16 id ++
              [BitVec.ofNat 8 n]
          | .resetDiscard c n => [0x0C, 10] ++ be16 r.seq ++ be32 r.time ++ [c.code, BitVec.ofNat 8 n]
          | .reportsLost n => [0x0D, 10] ++ be16 r.seq ++ be32 r.time ++ be16 n)) ∧
  (∀ (r : Record),
      r.bytes[1]? = some (BitVec.ofNat 8 r.bytes.length) ∧ r.bytes.length ≤ 18) ∧
  (∀ (h : Half) (w : Word),
      be16 h = [BitVec.ofNat 8 (h.toNat / 256), BitVec.ofNat 8 h.toNat] ∧
        be32 w = [BitVec.ofNat 8 (w.toNat / 16777216), BitVec.ofNat 8 (w.toNat / 65536), BitVec.ofNat 8 (w.toNat / 256),
          BitVec.ofNat 8 w.toNat]) ∧
  ([Port.update, .cycle].map Port.code = [1, 2] ∧ [TxnKind.read, .write].map TxnKind.code = [1, 2] ∧
        [DenyReason.noAccess, .heldWrite, .faulted].map DenyReason.code = [1, 2, 3] ∧
        [EpochSource.lineA, .lineB, .timer].map EpochSource.code = [1, 2, 3] ∧
        [CommitStep.readOld, .writeNew].map CommitStep.code = [1, 2] ∧
        [AbortOutcome.restored, .incomplete, .restoredOnRetry].map AbortOutcome.code = [1, 2, 3] ∧
        [SpoilCause.batchLimit, .storeFull, .holdExpired, .closeHoldExpired].map SpoilCause.code = [1, 2, 3, 4] ∧
        [DiscardCause.command, .windowDropped, .cleared].map DiscardCause.code = [1, 2, 3] ∧
        [ErrorRequester.cp, .up, .sl].map ErrorRequester.code = [1, 2, 3] ∧
        [MemFailure.error, .timeout].map MemFailure.code = [1, 2] ∧
        [ResetScope.updateReset, .serviceBatches].map ResetScope.code = [1, 2])

/-- R149 and R153, and the timers on the same time base (log 3); an idle timer running out a second time is log 4. -/
def Obligations.TimeAndTheIdleTimer : Prop :=
  (∀ (n : Nat) (s : State),
      s.pins.resetn = false →
      s.elapse n = { s with
        upd := { s.upd with state := match s.upd.state with
          | .held w f t => .held w f
              ⟨t.limit, if t.elapsed + n < t.limit.toNat then t.elapsed + n else max t.elapsed t.limit.toNat⟩
          | u => u }
        epoch := { s.epoch with
          lineA := match s.epoch.lineA.state with
            | .qualifying time k => ⟨.qualifying time (if k + n < time.toNat then k + n else max k time.toNat), s.epoch.lineA.time⟩
            | _ => s.epoch.lineA
          lineB := match s.epoch.lineB.state with
            | .qualifying time k => ⟨.qualifying time (if k + n < time.toNat then k + n else max k time.toNat), s.epoch.lineB.time⟩
            | _ => s.epoch.lineB
          count := if s.epoch.mode = .off then s.epoch.count
            else if s.epoch.count.toNat + n < s.epoch.active.toNat then s.epoch.count + BitVec.ofNat 16 n
            else BitVec.ofNat 16 (max s.epoch.count.toNat s.epoch.active.toNat) }
        arb := { s.arb with port := s.arb.port.map fun p => { p with elapsed :=
          if p.elapsed + n < p.timeout.toNat then p.elapsed + n else max p.elapsed p.timeout.toNat } }
        rep := { s.rep with
          time := s.rep.time + BitVec.ofNat 32 n
          idleElapsed := if s.rep.idleRunOut then s.rep.idleElapsed
            else if s.rep.idleElapsed + n < s.rep.idleTime.toNat * 100 then s.rep.idleElapsed + n
            else max s.rep.idleElapsed (s.rep.idleTime.toNat * 100) } }) ∧
  (∀ (s u : State),
      s.settled → s.rep.idleRunOut = false → u = s.elapse (s.rep.idleTime.toNat * 100 - s.rep.idleElapsed) →
      exec .idleTimerRunOut s = .next (State.judgeAttn { u with rep := { u.rep with idleRunOut := true } })) ∧
  (∀ (s : State),
      s.settled → s.rep.idleRunOut = true → exec .idleTimerRunOut s = .next s.judgeAttn)

/-- R158, R159 and R182; a fall of SSN while it is low is log 4, the bytes of an ignored transaction log 22, SDO with SSN low and
    no transaction log 24. -/
def Obligations.LinkTransactionStart : Prop :=
  (∀ (s : State),
      s.settled → s.pins.ssn = false →
      exec .linkTransactionStart s = .next (State.judgeAttn { s with
        pins := { s.pins with ssn := true }
        svc := { s.svc with link := some ⟨s.statusByte, .kindPending⟩ } })) ∧
  (∀ (s : State),
      s.settled → s.pins.ssn = true → exec .linkTransactionStart s = .next s.judgeAttn) ∧
  (∀ (s : State),
      s.statusByte.toNat =
        (match s.svc.slot with
          | .idle => 0
          | .working _ _ _ => 64
          | .ready _ _ _ => 128) + 32 +
          8 * (decide (s.rep.watermark.toNat ≤ s.rep.queue.length)).toNat +
          4 * (decide (s.rep.queue ≠ []) && s.rep.idleRunOut).toNat +
          2 * (decide (s.engine.state = .halted)).toNat + s.reasonResponse.toNat) ∧
  (∀ (t : LinkTxn) (k : Nat) (s : State),
      s.pins.resetn = false → s.svc.link = some t →
      s.sdoByte 0 = some t.status ∧
        s.sdoByte (k + 1) = some (match t.phase with
          | .collecting frame _ => frame.getD k 0x00
          | _ => 0x00)) ∧
  (∀ (k : Nat) (s : State),
      (s.pins.resetn = true ∨ s.svc.link = none) → s.sdoByte k = none)

/-- R160, R162, R168 and R184: bytes and rows agree (log 5); R161 and R183: the CRC-8. -/
def Obligations.RequestFrameRunsItsCommand : Prop :=
  (∀ (c : Instr) (frame : List Byte) (t : LinkTxn) (s : State),
      requestOf c = some frame → s.takesCommands → s.svc.link = some t → t.phase = .kindPending → showedIdle t.status = true →
      exec (.requestFrameDecided frame) s = exec c s) ∧
  (∀ (tag code : Byte) (payload more : List Byte),
      payload.length ≤ 60 → parseFrame (requestFrame tag code payload ++ more) = some ⟨tag, code, payload, true⟩) ∧
  (∀ (bytes : List Byte) (b : Byte),
      crc8 [] = 0xFF ∧
        crc8 (bytes ++ [b]) = (List.range 8).foldl
          (fun (register : Byte) _ => if register.getLsbD 7 then (register <<< 1) ^^^ 0x07 else register <<< 1)
          (crc8 bytes ^^^ b)) ∧
  (∀ (tag code c : Byte) (payload more body : List Byte),
      payload.length ≤ 60 → body = [0xC1, tag, code, BitVec.ofNat 8 payload.length] ++ payload →
      requestFrame tag code payload = body ++ [crc8 body] ∧
        parseFrame (body ++ c :: more) = some ⟨tag, code, payload, crc8 body == c⟩) ∧
  (∀ (bytes rest : List Byte) (kind tag code len : Byte),
      (bytes.length < 4 ∨ (bytes = kind :: tag :: code :: len :: rest ∧ (kind ≠ 0xC1 ∨ 60 < len.toNat ∨ rest.length ≤ len.toNat))) →
      parseFrame bytes = none)

/-- R159, R162, R163, R167, R168 and R172 (log 5, log 15). SSN rising on a line that is high already is log 4. -/
def Obligations.BadAndDroppedRequests : Prop :=
  (∀ (frame : List Byte) (f : RequestFrame) (t : LinkTxn) (s : State),
      s.takesCommands → s.svc.link = some t → t.phase = .kindPending → showedIdle t.status = true → parseFrame frame = some f →
      f.good = false → exec (.requestFrameDecided frame) s = .next (State.answered f.tag .badFrame [] s)) ∧
  (∀ (received : List Byte) (bits : List Bool) (t : LinkTxn) (s : State),
      s.takesCommands → s.pins.ssn = true → s.svc.link = some t → t.phase = .kindPending → showedIdle t.status = true →
      parseFrame (0xC1 :: received) = none →
      exec (.ssnRises (0xC1 :: received) bits) s = .next (State.judgeAttn { s with
        pins := { s.pins with ssn := false }
        svc := { s.svc with slot := .ready (received.headD 0) .badFrame [], link := none } })) ∧
  (∀ (frame : List Byte) (f : RequestFrame) (t : LinkTxn) (s : State),
      s.settled → s.svc.link = some t → t.phase = .kindPending → showedIdle t.status = false → parseFrame frame = some f →
      exec (.requestFrameDecided frame) s = .next (State.judgeAttn { s with
        svc := { s.svc with dropped := satInc s.svc.dropped, link := some ⟨t.status, .frameEnded⟩ } })) ∧
  (∀ (t : LinkTxn) (s : State),
      s.settled → s.svc.link = some t → t.phase = .kindPending → showedIdle t.status = false →
      exec .requestDropped s = .next (State.judgeAttn { s with svc := { s.svc with dropped := satInc s.svc.dropped, link := some ⟨t.status, .frameEnded⟩ } })) ∧
  (∀ (c : Instr) (s : State),
      s.settled → s.svc.slot ≠ .idle → (requestOf c).isSome = true →
      exec c s = .next (State.judgeAttn { s with svc := { s.endFrame.svc with dropped := satInc s.svc.dropped } })) ∧
  (∀ (received : List Byte) (bits : List Bool) (s : State),
      s.settled → s.pins.ssn = false → exec (.ssnRises received bits) s = .next s.judgeAttn) ∧
  (∀ (tag code : Byte) (payload : List Byte) (t : LinkTxn) (s : State),
      s.takesCommands → s.svc.link = some t → t.phase = .kindPending → showedIdle t.status = true → payload.length ≤ 60 →
      code ∉ ([0x01, 0x10, 0x11, 0x12, 0x13, 0x20, 0x21, 0x22, 0x30, 0x31, 0x40, 0x50, 0x51, 0x52, 0x60, 0x70, 0x7F] : List Byte) →
      exec (.requestFrameDecided (requestFrame tag code payload)) s = .next (State.answered tag .badCommand [] s)) ∧
  (∀ (tag code : Byte) (len : Nat) (payload : List Byte) (t : LinkTxn) (s : State),
      s.takesCommands → s.svc.link = some t → t.phase = .kindPending → showedIdle t.status = true → payload.length ≤ 60 →
      (code, len) ∈ ([(0x01, 0), (0x10, 22), (0x11, 1), (0x12, 1), (0x13, 2), (0x20, 1), (0x21, 2), (0x22, 1), (0x30, 1), (0x31, 1),
        (0x40, 6), (0x50, 6), (0x51, 0), (0x52, 0), (0x60, 0), (0x70, 5), (0x7F, 1)] : List (Byte × Nat)) →
      payload.length ≠ len →
      exec (.requestFrameDecided (requestFrame tag code payload)) s = .next (State.answered tag .badArgument [] s)) ∧
  (∀ (tag code b i k w d : Byte) (h : Half) (a : Word) (payload : List Byte) (t : LinkTxn) (s : State),
      s.takesCommands → s.svc.link = some t → t.phase = .kindPending → showedIdle t.status = true →
      ((code = 0x31 ∧ payload = [b] ∧ b ∉ ([0x00, 0x01, 0x02] : List Byte)) ∨
        (code = 0x13 ∧ payload = [i, b] ∧ b ∉ ([0x01, 0x02] : List Byte)) ∨
        (code = 0x21 ∧ payload = [i, b] ∧ b ∉ ([0x01, 0x02, 0x03] : List Byte)) ∨
        (code = 0x70 ∧ payload = be32 a ++ [b] ∧ b ∉ ([0x01, 0x02] : List Byte)) ∨
        (code = 0x7F ∧ payload = [b] ∧ b ∉ ([0x01, 0x02] : List Byte)) ∨
        (code = 0x50 ∧ payload = b :: be16 h ++ [k, w, d] ∧ 16 ≤ b.toNat)) →
      exec (.requestFrameDecided (requestFrame tag code payload)) s = .next (State.answered tag .badArgument [] s)) ∧
  (∀ (tag k w d : Byte) (h : Half) (t : LinkTxn) (s : State),
      s.takesCommands → s.svc.link = some t → t.phase = .kindPending → showedIdle t.status = true →
      exec (.requestFrameDecided (requestFrame tag 0x50 (0x00 :: be16 h ++ [k, w, d]))) s = .next (State.answered tag .ok
        (be16 s.store.writeHoldLimit ++ [s.arb.timeout, s.rep.watermark, s.rep.idleTime]) s)) ∧
  (∀ (kind : Byte) (rest received : List Byte) (bits : List Bool) (t : LinkTxn) (s : State),
      s.settled → s.pins.ssn = true → s.svc.link = some t → t.phase = .kindPending →
      (received = [] ∨ (received = kind :: rest ∧ kind ≠ 0xC1 ∧ kind ≠ 0xC2)) →
      exec (.ssnRises received bits) s = .next (State.judgeAttn { s with pins := { s.pins with ssn := false }, svc := { s.svc with link := none } })) ∧
  (∀ (rest : List Byte) (bits : List Bool) (t : LinkTxn) (s : State),
      s.settled → s.pins.ssn = true → s.svc.link = some t → t.phase = .kindPending → showedIdle t.status = false →
      exec (.ssnRises (0xC1 :: rest) bits) s = .next (State.judgeAttn { s with
        pins := { s.pins with ssn := false }
        svc := { s.svc with dropped := satInc s.svc.dropped, link := none } })) ∧
  (∀ (received : List Byte) (bits : List Bool) (f : RequestFrame) (t : LinkTxn) (s u : State),
      s.settled → s.pins.ssn = true → s.svc.link = some t → t.phase = .kindPending → parseFrame received = some f →
      exec (.requestFrameDecided received) s = .next u →
      exec (.ssnRises received bits) s = .next (State.judgeAttn { u with pins := { u.pins with ssn := false }, svc := { u.svc with link := none } })) ∧
  (∀ (rest : List Byte) (bits : List Bool) (t : LinkTxn) (s u : State),
      s.settled → s.pins.ssn = true → s.svc.link = some t → t.phase = .kindPending → exec .collect s = .next u →
      exec (.ssnRises (0xC2 :: rest) bits) s = exec (.ssnRises (0xC2 :: rest) bits) u)

/-- R164; the presence codes are those of R182. A transaction in progress has SSN low (R158), which SettingsAndLinesLawKept
    states. -/
def Obligations.CollectDecidesItsResponse : Prop :=
  (∀ (t : LinkTxn) (s : State),
      s.settled → s.svc.link = some t → t.phase = .kindPending → s.svc.slot = .idle →
      exec .collect s = .next (State.judgeAttn { s with svc := { s.svc with link := some ⟨t.status, .collecting ([0x80, 0, 0, 0] ++ [crc8 [0x80, 0, 0, 0]]) false⟩ } })) ∧
  (∀ (tag code : Byte) (payload : List Byte) (t : LinkTxn) (s : State),
      s.settled → s.svc.link = some t → t.phase = .kindPending → s.svc.slot = .working tag code payload →
      exec .collect s = .next (State.judgeAttn { s with svc := { s.svc with link := some ⟨t.status, .collecting ([0x81, tag, 0, 0] ++ [crc8 [0x81, tag, 0, 0]]) false⟩ } })) ∧
  (∀ (tag : Byte) (r : Result) (payload body : List Byte) (t : LinkTxn) (s : State),
      s.settled → s.svc.link = some t → t.phase = .kindPending → s.svc.slot = .ready tag r payload →
      body = [0x82, tag, r.code, BitVec.ofNat 8 payload.length] ++ payload →
      exec .collect s = .next (State.judgeAttn { s with svc := { s.svc with link := some ⟨t.status, .collecting (body ++ [crc8 body]) true⟩ } })) ∧
  (∀ (slot : Slot),
      (collectFrame slot).length = (match slot with | .ready _ _ payload => payload.length | _ => 0) + 5) ∧
  (∀ (st : Byte) (frame : List Byte) (whole : Bool) (k : Nat) (c : Instr) (s t : State),
      s.pins.resetn = false → s.pins.ssn = true → s.svc.link = some ⟨st, .collecting frame whole⟩ →
      (∀ received bits, c ≠ .ssnRises received bits) → c ≠ .powerOnReset → exec c s = .next t →
      t.svc.link = s.svc.link ∧ s.sdoByte (k + 1) = some (frame.getD k 0x00))

/-- R165. A rise that itself decides the collect is in BadAndDroppedRequests (log 15). -/
def Obligations.CollectEndsReady : Prop :=
  (∀ (st : Byte) (frame : List Byte) (whole : Bool) (received : List Byte) (bits : List Bool) (s : State),
      s.settled → s.pins.ssn = true → s.svc.link = some ⟨st, .collecting frame whole⟩ → whole = true →
      frame.length + 1 ≤ received.length →
      exec (.ssnRises received bits) s = .next (State.judgeAttn { s with pins := { s.pins with ssn := false }, svc := { s.svc with slot := .idle, link := none } })) ∧
  (∀ (st : Byte) (frame : List Byte) (whole : Bool) (received : List Byte) (bits : List Bool) (s : State),
      s.settled → s.pins.ssn = true → s.svc.link = some ⟨st, .collecting frame whole⟩ →
      (whole = false ∨ received.length < frame.length + 1) →
      exec (.ssnRises received bits) s = .next (State.judgeAttn { s with pins := { s.pins with ssn := false }, svc := { s.svc with link := none } }))

/-- R171, R174 and R175, in the layouts of R185. -/
def Obligations.IdentLimitsAndCounters : Prop :=
  (∀ (tag : Byte) (s : State),
      s.takesCommands →
      exec (.ident tag) s = .next (State.answered tag .ok
        [0x0C, 0x31, 0x02, 0x16, 0x01, 16, 0x01, 0x00, 64, 4, 16, 64, 64, 60] s)) ∧
  (∀ (tag : Byte) (s : State),
      s.takesCommands →
      exec (.limitsRead tag) s = .next (State.answered tag .ok
        (be16 s.store.writeHoldLimit ++ [s.arb.timeout, s.rep.watermark, s.rep.idleTime]) s)) ∧
  (∀ (tag : Byte) (s : State),
      s.takesCommands →
      exec (.countersRead tag) s = .next (State.answered tag .ok
        (be16 s.epoch.epochsA ++ be16 s.epoch.epochsB ++ be16 s.epoch.epochsTimer ++ be16 s.epoch.flywheel ++
          be16 s.svc.dropped) s)) ∧
  (∀ (tag code : Byte) (payload : List Byte) (t : LinkTxn) (s : State),
      s.takesCommands → s.svc.link = some t → t.phase = .kindPending → showedIdle t.status = true →
      (code = 0x01 ∨ code = 0x51 ∨ code = 0x52) → payload ≠ [] → payload.length ≤ 60 →
      exec (.requestFrameDecided (requestFrame tag code payload)) s = .next (State.answered tag .badArgument [] s))

/-- R172 and R173; the rows carry the further fields of a request (log 13). -/
def Obligations.LimitsSet : Prop :=
  (∀ (tag : Byte) (hold : Option Half) (timeout watermark idle : Option Byte) (c : Instr) (s : State),
      s.takesCommands → limitsRow tag hold timeout watermark idle = some c →
      (timeout.all (fun t => decide (1 ≤ t.toNat)) && watermark.all (fun w => decide (1 ≤ w.toNat ∧ w.toNat ≤ 64)) &&
      idle.all (fun i => decide (1 ≤ i.toNat))) = true →
      exec c s = .next (State.answered tag .ok
        (be16 (hold.getD s.store.writeHoldLimit) ++
          [timeout.getD s.arb.timeout, watermark.getD s.rep.watermark, idle.getD s.rep.idleTime])
        { s with
          store := { s.store with writeHoldLimit := hold.getD s.store.writeHoldLimit }
          arb := { s.arb with timeout := timeout.getD s.arb.timeout }
          rep := { s.rep with
            watermark := watermark.getD s.rep.watermark
            idleTime := idle.getD s.rep.idleTime
            idleElapsed := if idle.isSome then 0 else s.rep.idleElapsed
            idleRunOut := if idle.isSome then false else s.rep.idleRunOut } })) ∧
  (∀ (tag : Byte) (hold : Option Half) (timeout watermark idle : Option Byte) (c : Instr) (s : State),
      s.takesCommands → limitsRow tag hold timeout watermark idle = some c →
      (timeout.all (fun t => decide (1 ≤ t.toNat)) && watermark.all (fun w => decide (1 ≤ w.toNat ∧ w.toNat ≤ 64)) &&
      idle.all (fun i => decide (1 ≤ i.toNat))) = false →
      exec c s = .next (State.answered tag .badArgument [] s))

/-- R66, R71 and R72; the rows carry the further fields of a request (log 13). -/
def Obligations.TimerSet : Prop :=
  (∀ (tag : Byte) (mode : Option Byte) (period : Option Half) (qa qb : Option Byte) (e : EpochUnit) (s : State),
      s.takesCommands →
      (mode.all (fun m => decide (m.toNat ≤ 2)) && period.all (fun p => decide (2 ≤ p.toNat)) &&
      qa.all (fun q => decide (q.toNat ≤ 15)) && qb.all (fun q => decide (q.toNat ≤ 15))) = true →
      e = { s.epoch with
        lineA := { s.epoch.lineA with time := qa.getD s.epoch.lineA.time }
        lineB := { s.epoch.lineB with time := qb.getD s.epoch.lineB.time }
        mode := match mode with
          | some m => if m = 0x00 then .off else if m = 0x01 then .free else .syncA
          | none => s.epoch.mode
        active := match mode, period with
          | some _, some p => p
          | some _, none => s.epoch.pending.getD s.epoch.active
          | none, some p => if s.epoch.mode = .off then p else s.epoch.active
          | none, none => s.epoch.active
        pending := match mode, period with
          | some _, _ => none
          | none, some p => if s.epoch.mode = .off then none else some p
          | none, none => s.epoch.pending
        count := if mode.isSome then 0 else s.epoch.count } →
      exec (timerRow tag mode period qa qb) s = .next (State.answered tag .ok
        (e.mode.code :: be16 e.active ++ (if e.pending.isSome then 0x01 else 0x00) :: be16 (e.pending.getD 0) ++
          [e.lineA.time, e.lineB.time] ++ be16 e.count)
        { s with epoch := e })) ∧
  (∀ (tag : Byte) (mode : Option Byte) (period : Option Half) (qa qb : Option Byte) (s : State),
      s.takesCommands →
      (mode.all (fun m => decide (m.toNat ≤ 2)) && period.all (fun p => decide (2 ≤ p.toNat)) &&
      qa.all (fun q => decide (q.toNat ≤ 15)) && qb.all (fun q => decide (q.toNat ≤ 15))) = false →
      exec (timerRow tag mode period qa qb) s = .next (State.answered tag .badArgument [] s))

/-- R17, R40 and R115, in the layouts of R185 and with the codes of R181. -/
def Obligations.WindowReadBatchListUndoRead : Prop :=
  (∀ (tag index : Byte) (s : State),
      s.takesCommands → 16 ≤ index.toNat →
      exec (.windowRead tag index) s = .next (State.answered tag .badArgument [] s) ∧
        exec (.batchList tag index) s = .next (State.answered tag .badArgument [] s)) ∧
  (∀ (tag index : Byte) (i : WIdx) (s : State),
      s.takesCommands → index.toNat = i.val → (s.win i).place = .free →
      exec (.windowRead tag index) s = .next (State.answered tag .noWindow [] s) ∧
        exec (.batchList tag index) s = .next (State.answered tag .noWindow [] s)) ∧
  (∀ (tag index : Byte) (i : WIdx) (d : Descriptor) (s : State),
      s.takesCommands → index.toNat = i.val → ((s.win i).place = .active d ∨ (s.win i).place = .faulted d) →
      exec (.windowRead tag index) s = .next (State.answered tag .ok
        ([index, if (s.win i).place = .active d then 0x01 else 0x02] ++ d.bytes ++ (s.win i).counters.bytes) s)) ∧
  (∀ (tag index : Byte) (i : WIdx) (d : Descriptor) (s : State),
      s.takesCommands → index.toNat = i.val → ((s.win i).place = .active d ∨ (s.win i).place = .faulted d) →
      exec (.batchList tag index) s = .next
        (if d.cls = .pass then State.answered tag .notHeld [] s
        else State.answered tag .ok
          (index ::
            (match (s.win i).openBatch with
              | none => [0x00, 0x00, 0x00, 0x00, 0x00, 0xFF]
              | some (.gathering id es) => 0x01 :: be16 id ++ [0x01, BitVec.ofNat 8 es.length, 0xFF]
              | some (.spoiled id cause) => 0x01 :: be16 id ++ [0x02, 0x00, cause.code]) ++
            be16 (BitVec.ofNat 16 s.inUse) ++
            (match s.upd.state with
              | .held w f _ => [0x01, BitVec.ofNat 8 w.window.val, f.code]
              | _ => [0x00, 0x00, 0x00]) ++
            BitVec.ofNat 8 (s.win i).waiting.length ::
              (s.win i).waiting.flatMap fun b =>
                be16 b.id ++ [b.state.code, BitVec.ofNat 8 b.entries.length, b.cause.code] ++
                  (match b.stamp with
                    | some st => st.source.code :: be16 st.number
                    | none => 0xFF :: be16 0)) s)) ∧
  (∀ (tag start : Byte) (s : State),
      s.takesCommands → 64 ≤ start.toNat → exec (.undoRead tag start) s = .next (State.answered tag .badArgument [] s)) ∧
  (∀ (tag start : Byte) (s : State),
      s.takesCommands → start.toNat < 64 → s.engine.state ≠ .halted →
      exec (.undoRead tag start) s = .next (State.answered tag .none [] s)) ∧
  (∀ (tag start : Byte) (c : FaultContext) (s : State),
      s.takesCommands → start.toNat < 64 → s.engine.state = .halted → s.engine.context = some c →
      exec (.undoRead tag start) s = .next (State.answered tag .ok
        (BitVec.ofNat 8 c.window.val :: be16 c.id ++ be32 c.addr ++
          [c.step.code, BitVec.ofNat 8 s.engine.undo.length, start,
            BitVec.ofNat 8 ((s.engine.undo.drop start.toNat).take 4).length] ++
          ((s.engine.undo.drop start.toNat).take 4).flatMap fun r =>
            be32 r.addr ++ [r.old.l0, r.old.l1, r.old.l2, r.old.l3, laneByte r.mask]) s)) ∧
  (∀ (d : Descriptor) (c : WindowCounters),
      d.bytes =
        be32 d.base ++ be32 d.size ++
          [match d.cls with
            | .pass => 0x00
            | .held _ => 0x01, d.updateAccess.code, d.cycleAccess.code, d.tap.code, if d.doneReports then 0x01 else 0x00] ++
          (match d.cls with
            | .pass => [0xFF, 0xFF, 0x00, 0x00, 0x00, 0x00, 0x00, 0x00]
            | .held h => [h.source.code, h.closeMode.code, if h.closing.isSome then 0x01 else 0x00] ++
              be32 (h.closing.getD 0) ++ [h.batchLimit]) ∧
        d.bytes.length = 21 ∧
        c.bytes = be16 c.commitsDone ++ be16 c.batchesAborted ++ be16 c.batchesSpoiled ++ be16 c.epochOverruns ++
          be16 c.accessesDenied) ∧
  ([Access.none, .readOnly, .readWrite].map Access.code = [0, 1, 2] ∧
        [Tap.off, .updateWrites, .allWrites].map Tap.code = [0, 1, 2] ∧
        [WindowSource.epoch .lineA, .epoch .lineB, .epoch .timer, .immediate].map WindowSource.code = [1, 2, 3, 4] ∧
        [CloseMode.onClosingWrite, .onEpoch].map CloseMode.code = [0, 1] ∧
        [BatchState.closed, .queued, .committing, .rollingBack].map BatchState.code = [3, 4, 5, 6] ∧
        [CloseCause.closingWrite, .closeCommand, .epoch].map CloseCause.code = [1, 2, 3] ∧
        [WaitsFor.stagingEntry, .listRoom].map WaitsFor.code = [1, 2] ∧
        [Gate.opened, .held].map Gate.code = [0, 1] ∧ [TimerMode.off, .free, .syncA].map TimerMode.code = [0, 1, 2] ∧
        [EngineState.idle, .committing, .rollingBack, .halted].map EngineState.code = [0, 1, 2, 3] ∧
        [ProbeView.memory, .update].map ProbeView.code = [1, 2] ∧
        [Result.ok, .badFrame, .badCommand, .badArgument, .overlap, .inUse, .noWindow, .notHeld, .faulted, .notFaulted, .empty,
          .full, .spoiled, .late, .none, .memoryError].map Result.code = [1, 2, 3, 4, 5, 6, 7, 9, 10, 11, 12, 13, 14, 15, 16, 17])

/-- R12 and R13; waiting writes are those at the arbiter (log 18). -/
def Obligations.WindowSet : Prop :=
  (∀ (tag : Byte) (a : WindowSetArgs) (s : State),
      s.takesCommands → 16 ≤ a.index.toNat → exec (.windowSet tag a) s = .next (State.answered tag .badArgument [] s)) ∧
  (∀ (tag : Byte) (a : WindowSetArgs) (i : WIdx) (s : State),
      s.takesCommands → a.index.toNat = i.val → (s.win i).place ≠ .free →
      exec (.windowSet tag a) s = .next (State.answered tag .inUse [] s)) ∧
  (∀ (tag : Byte) (a : WindowSetArgs) (i : WIdx) (s : State),
      s.takesCommands → a.index.toNat = i.val → (s.win i).place = .free → setDescriptor a = none →
      exec (.windowSet tag a) s = .next (State.answered tag .badArgument [] s)) ∧
  (∀ (tag : Byte) (a : WindowSetArgs) (i j : WIdx) (d : Descriptor) (s : State),
      s.takesCommands → a.index.toNat = i.val → (s.win i).place = .free → setDescriptor a = some d →
      (s.win j).place.clashes d = true → (∀ k : WIdx, k < j → (s.win k).place.clashes d = false) →
      exec (.windowSet tag a) s = .next (State.answered tag .overlap [BitVec.ofNat 8 j.val] s)) ∧
  (∀ (tag : Byte) (a : WindowSetArgs) (i : WIdx) (d : Descriptor) (s : State),
      s.takesCommands → a.index.toNat = i.val → (s.win i).place = .free → setDescriptor a = some d →
      (∀ k : WIdx, (s.win k).place.clashes d = false) →
      (d.cls ≠ .pass ∧ (writeUnder d s.arb.cp = true ∨ writeUnder d s.arb.up = true)) →
      exec (.windowSet tag a) s = .next (State.answered tag .inUse [] s)) ∧
  (∀ (tag : Byte) (a : WindowSetArgs) (i : WIdx) (d : Descriptor) (s : State),
      s.takesCommands → a.index.toNat = i.val → (s.win i).place = .free → setDescriptor a = some d →
      (∀ k : WIdx, (s.win k).place.clashes d = false) →
      (d.cls = .pass ∨ (writeUnder d s.arb.cp = false ∧ writeUnder d s.arb.up = false)) →
      exec (.windowSet tag a) s = .next (State.answered tag .ok []
        (s.setWin i ⟨.active d, ⟨0, 0, 0, 0, 0⟩, none, []⟩))) ∧
  (∀ (a : WindowSetArgs),
      (setDescriptor a).isSome = decide
        ((a.cls = 0x00 ∨ a.cls = 0x01) ∧ a.updateAccess.toNat ≤ 2 ∧ a.cycleAccess.toNat ≤ 2 ∧ a.tap.toNat ≤ 2 ∧
          a.doneReports.toNat ≤ 1 ∧ a.base.toNat % 64 = 0 ∧ a.size.toNat % 64 = 0 ∧ 64 ≤ a.size.toNat ∧
          a.size.toNat ≤ 16777216 ∧ a.base.toNat + a.size.toNat ≤ 2 ^ 32 ∧
          (a.cls = 0x01 →
            (1 ≤ a.epochSource.toNat ∧ a.epochSource.toNat ≤ 4) ∧ a.closeMode.toNat ≤ 1 ∧
              ¬(a.closeMode = 0x01 ∧ a.epochSource = 0x04) ∧
              (a.closingFlag = 0x00 ∨ (a.closingFlag = 0x01 ∧ a.closingAddr.toNat % 4 = 0 ∧
                a.base.toNat ≤ a.closingAddr.toNat ∧ a.closingAddr.toNat + 4 ≤ a.base.toNat + a.size.toNat)) ∧
              1 ≤ a.batchLimit.toNat ∧ a.batchLimit.toNat ≤ 64))) ∧
  (∀ (a : WindowSetArgs) (d : Descriptor),
      setDescriptor a = some d →
      d.base = a.base ∧ d.size = a.size ∧ d.updateAccess.code = a.updateAccess ∧ d.cycleAccess.code = a.cycleAccess ∧
        d.tap.code = a.tap ∧ (if d.doneReports then 0x01 else 0x00) = a.doneReports ∧ d.cls.code = a.cls ∧
        d.cls.fields = if a.cls = 0x00 then none else
          match WindowSource.ofCode a.epochSource, CloseMode.ofCode a.closeMode with
          | some source, some mode => some ⟨source, mode, if a.closingFlag = 0x00 then none else some a.closingAddr, a.batchLimit⟩
          | _, _ => none) ∧
  (∀ (p : Place) (d : Descriptor) (r : Option BusRequest),
      (p.clashes d = true ↔ ∃ e, (p = .active e ∨ p = .faulted e) ∧
          d.base.toNat < e.base.toNat + e.size.toNat ∧ e.base.toNat < d.base.toNat + d.size.toNat) ∧
        (writeUnder d r = true ↔ ∃ a w, r = some (.write a w) ∧
          d.base.toNat ≤ a.toNat ∧ a.toNat < d.base.toNat + d.size.toNat))

/-- R14 and R15. -/
def Obligations.WindowDrop : Prop :=
  (∀ (tag index : Byte) (s : State),
      s.takesCommands → 16 ≤ index.toNat → exec (.windowDrop tag index) s = .next (State.answered tag .badArgument [] s)) ∧
  (∀ (tag index : Byte) (i : WIdx) (s : State),
      s.takesCommands → index.toNat = i.val → (s.win i).place = .free →
      exec (.windowDrop tag index) s = .next (State.answered tag .noWindow [] s)) ∧
  (∀ (tag index : Byte) (i : WIdx) (d : Descriptor) (s : State),
      s.takesCommands → index.toNat = i.val → (s.win i).place = .faulted d →
      exec (.windowDrop tag index) s = .next (State.answered tag .faulted [] s)) ∧
  (∀ (tag index : Byte) (i : WIdx) (d : Descriptor) (s : State),
      s.takesCommands → index.toNat = i.val → (s.win i).place = .active d →
      (s.win i).waiting.any (fun b => b.state != .closed) = true →
      exec (.windowDrop tag index) s = .next (State.answered tag .inUse [] s)) ∧
  (∀ (tag index : Byte) (i : WIdx) (d : Descriptor) (s : State),
      s.takesCommands → index.toNat = i.val → (s.win i).place = .active d →
      (s.win i).waiting.all (fun b => b.state == .closed) = true →
      exec (.windowDrop tag index) s = .next (State.answered tag .ok
        [BitVec.ofNat 8 (discardRecords i .windowDropped (s.win i)).length]
        { s.setWin i ⟨.free, (s.win i).counters, none, []⟩ with
          upd := s.updFaulted i
          rep := (discardRecords i .windowDropped (s.win i)).foldl ReportUnit.take s.rep }))

/-- R111, R112 and R114. -/
def Obligations.WindowClear : Prop :=
  (∀ (tag index : Byte) (s : State),
      s.takesCommands → 16 ≤ index.toNat →
      exec (.windowClearRetry tag index) s = .next (State.answered tag .badArgument [] s) ∧
        exec (.windowClearAbandon tag index) s = .next (State.answered tag .badArgument [] s)) ∧
  (∀ (tag index : Byte) (i : WIdx) (s : State),
      s.takesCommands → index.toNat = i.val → (s.win i).place = .free →
      exec (.windowClearRetry tag index) s = .next (State.answered tag .noWindow [] s) ∧
        exec (.windowClearAbandon tag index) s = .next (State.answered tag .noWindow [] s)) ∧
  (∀ (tag index : Byte) (i : WIdx) (d : Descriptor) (s : State),
      s.takesCommands → index.toNat = i.val → (s.win i).place = .active d →
      exec (.windowClearRetry tag index) s = .next (State.answered tag .notFaulted [] s) ∧
        exec (.windowClearAbandon tag index) s = .next (State.answered tag .notFaulted [] s)) ∧
  (∀ (tag index : Byte) (i : WIdx) (d : Descriptor) (us : List UndoRecord) (r : UndoRecord) (s : State),
      s.takesCommands → index.toNat = i.val → (s.win i).place = .faulted d → s.engine.undo = us ++ [r] →
      exec (.windowClearRetry tag index) s = .next (State.judgeAttn (State.placeCommit
        (.write r.addr (.four r.old.l0 r.old.l1 r.old.l2 r.old.l3)) (State.queueImmediate i (State.holdCycleRead i
          { s.setWin i { s.win i with place := .active d } with
            engine := { s.engine with state := .rollingBack, inHand := none, cursor := none, resumedWrites := 0 }
            svc := { s.endFrame.svc with slot := .working tag 0x13 [index, 0x01] } }))))) ∧
  (∀ (tag index : Byte) (i : WIdx) (d : Descriptor) (s : State),
      s.takesCommands → index.toNat = i.val → (s.win i).place = .faulted d →
      (s.win i).waiting.all (fun b => b.state == .closed) = true →
      exec (.windowClearAbandon tag index) s = .next (State.answered tag .ok
        [BitVec.ofNat 8 (discardRecords i .cleared (s.win i)).length]
        { s.setWin i ⟨.active d, (s.win i).counters, none, []⟩ with
          upd := s.updFaulted i
          rep := (discardRecords i .cleared (s.win i)).foldl ReportUnit.take s.rep
          engine := { s.engine with
            state := .idle, inHand := none, cursor := none, undo := [], context := none, resumedWrites := 0 } }))

/-- R36 with R32 and R92, and the checks of R37. -/
def Obligations.BatchCloseAndChecks : Prop :=
  (∀ (tag index : Byte) (i : WIdx) (h : HeldFields) (s : State),
      s.takesCommands → index.toNat = i.val → (s.win i).place.activeHeld = some h → (s.win i).openBatch = none →
      exec (.batchClose tag index) s = .next (State.answered tag .empty [] s)) ∧
  (∀ (tag index : Byte) (i : WIdx) (h : HeldFields) (id : Half) (es : List Entry) (s : State),
      s.takesCommands → index.toNat = i.val → (s.win i).place.activeHeld = some h →
      (s.win i).openBatch = some (.gathering id es) → es = [] →
      exec (.batchClose tag index) s = .next (State.answered tag .empty [] s)) ∧
  (∀ (tag index : Byte) (i : WIdx) (h : HeldFields) (id : Half) (cause : SpoilCause) (s : State),
      s.takesCommands → index.toNat = i.val → (s.win i).place.activeHeld = some h →
      (s.win i).openBatch = some (.spoiled id cause) →
      exec (.batchClose tag index) s = .next (State.answered tag .spoiled [] (s.setWin i { s.win i with openBatch := none }))) ∧
  (∀ (tag index : Byte) (i : WIdx) (h : HeldFields) (id : Half) (es : List Entry) (s : State),
      s.takesCommands → index.toNat = i.val → (s.win i).place.activeHeld = some h →
      (s.win i).openBatch = some (.gathering id es) → es ≠ [] → 4 ≤ (s.win i).waiting.length →
      exec (.batchClose tag index) s = .next (State.answered tag .full [] s)) ∧
  (∀ (tag index : Byte) (i : WIdx) (h : HeldFields) (id : Half) (es : List Entry) (s : State),
      s.takesCommands → index.toNat = i.val → (s.win i).place.activeHeld = some h →
      (s.win i).openBatch = some (.gathering id es) → es ≠ [] → (s.win i).waiting.length < 4 →
      exec (.batchClose tag index) s = .next (State.answered tag .ok (be16 id ++ [BitVec.ofNat 8 es.length])
        (State.queueImmediate i (s.setWin i { s.win i with
          openBatch := none, waiting := (s.win i).waiting ++ [⟨id, es, .closed, .closeCommand, none⟩] })))) ∧
  (∀ (tag index : Byte) (s : State),
      s.takesCommands → 16 ≤ index.toNat →
      exec (.batchClose tag index) s = .next (State.answered tag .badArgument [] s) ∧
        exec (.batchDiscardOpen tag index) s = .next (State.answered tag .badArgument [] s) ∧
        exec (.batchDiscardWaiting tag index) s = .next (State.answered tag .badArgument [] s) ∧
        exec (.batchDiscardQueued tag index) s = .next (State.answered tag .badArgument [] s)) ∧
  (∀ (tag index : Byte) (i : WIdx) (s : State),
      s.takesCommands → index.toNat = i.val → (s.win i).place = .free →
      exec (.batchClose tag index) s = .next (State.answered tag .noWindow [] s) ∧
        exec (.batchDiscardOpen tag index) s = .next (State.answered tag .noWindow [] s) ∧
        exec (.batchDiscardWaiting tag index) s = .next (State.answered tag .noWindow [] s) ∧
        exec (.batchDiscardQueued tag index) s = .next (State.answered tag .noWindow [] s)) ∧
  (∀ (tag index : Byte) (i : WIdx) (d : Descriptor) (s : State),
      s.takesCommands → index.toNat = i.val → ((s.win i).place = .active d ∨ (s.win i).place = .faulted d) → d.cls = .pass →
      exec (.batchClose tag index) s = .next (State.answered tag .notHeld [] s) ∧
        exec (.batchDiscardOpen tag index) s = .next (State.answered tag .notHeld [] s) ∧
        exec (.batchDiscardWaiting tag index) s = .next (State.answered tag .notHeld [] s) ∧
        exec (.batchDiscardQueued tag index) s = .next (State.answered tag .notHeld [] s)) ∧
  (∀ (tag index : Byte) (i : WIdx) (d : Descriptor) (s : State),
      s.takesCommands → index.toNat = i.val → (s.win i).place = .faulted d → d.cls ≠ .pass →
      exec (.batchClose tag index) s = .next (State.answered tag .faulted [] s) ∧
        exec (.batchDiscardOpen tag index) s = .next (State.answered tag .faulted [] s) ∧
        exec (.batchDiscardWaiting tag index) s = .next (State.answered tag .faulted [] s) ∧
        exec (.batchDiscardQueued tag index) s = .next (State.answered tag .faulted [] s))

/-- R37 to R39 and R80; a write held for another window that the freed entries admit is reconsidered by the next act (log 1, log
    23). -/
def Obligations.BatchDiscard : Prop :=
  (∀ (tag index : Byte) (i : WIdx) (h : HeldFields) (s : State),
      s.takesCommands → index.toNat = i.val → (s.win i).place.activeHeld = some h → (s.win i).openBatch = none →
      exec (.batchDiscardOpen tag index) s = .next (State.answered tag .none [] s)) ∧
  (∀ (tag index : Byte) (i : WIdx) (h : HeldFields) (b : OpenBatch) (s : State),
      s.takesCommands → index.toNat = i.val → (s.win i).place.activeHeld = some h → (s.win i).openBatch = some b →
      exec (.batchDiscardOpen tag index) s = .next (State.answered tag .ok [0x01]
        { s.setWin i { s.win i with openBatch := none } with
          upd := s.updFaulted i
          rep := s.rep.take (.batchDiscarded i
            (match b with
              | .gathering id _ => id
              | .spoiled id _ => id) .command) })) ∧
  (∀ (tag index : Byte) (i : WIdx) (h : HeldFields) (s : State),
      s.takesCommands → index.toNat = i.val → (s.win i).place.activeHeld = some h →
      (s.win i).waiting.all (fun b => b.state != .closed) = true →
      exec (.batchDiscardWaiting tag index) s = .next (State.answered tag .none [] s)) ∧
  (∀ (tag index : Byte) (i : WIdx) (h : HeldFields) (cs : List WaitBatch) (s : State),
      s.takesCommands → index.toNat = i.val → (s.win i).place.activeHeld = some h →
      cs = (s.win i).waiting.filter (fun b => b.state == .closed) → cs ≠ [] →
      exec (.batchDiscardWaiting tag index) s = .next (State.answered tag .ok [BitVec.ofNat 8 cs.length]
        { s.setWin i { s.win i with waiting := (s.win i).waiting.filter fun b => b.state != .closed } with
          rep := (cs.map fun b => RecordBody.batchDiscarded i b.id .command).foldl ReportUnit.take s.rep })) ∧
  (∀ (tag index : Byte) (i : WIdx) (h : HeldFields) (s : State),
      s.takesCommands → index.toNat = i.val → (s.win i).place.activeHeld = some h →
      (s.win i).waiting.head?.all (fun b => b.state == .closed) = true →
      exec (.batchDiscardQueued tag index) s = .next (State.answered tag .none [] s)) ∧
  (∀ (tag index : Byte) (i : WIdx) (h : HeldFields) (b : WaitBatch) (ws : List WaitBatch) (s : State),
      s.takesCommands → index.toNat = i.val → (s.win i).place.activeHeld = some h → (s.win i).waiting = b :: ws →
      (b.state = .committing ∨ b.state = .rollingBack) →
      exec (.batchDiscardQueued tag index) s = .next (State.answered tag .late [] s)) ∧
  (∀ (tag index : Byte) (i : WIdx) (h : HeldFields) (b : WaitBatch) (ws : List WaitBatch) (s : State),
      s.takesCommands → index.toNat = i.val → (s.win i).place.activeHeld = some h → (s.win i).waiting = b :: ws →
      b.state = .queued →
      exec (.batchDiscardQueued tag index) s = .next (State.answered tag .ok [0x01]
        (State.queueImmediate i { s.setWin i { s.win i with waiting := ws } with
          engine := { s.engine with queue := s.engine.queue.filter fun q => q.1 != i }
          rep := s.rep.take (.batchDiscarded i b.id .command) })))

/-- R82 and R83, in the layout of R185. -/
def Obligations.GateCommands : Prop :=
  (∀ (tag : Byte) (s : State),
      s.takesCommands →
      exec (.gateHold tag) s = .next (State.answered tag .ok
        ([0x01, s.engine.state.code, if s.engine.fullReset then 0x01 else 0x00, BitVec.ofNat 8 s.engine.undo.length] ++
          (match s.engine.inHand with
            | some h => [0x01, BitVec.ofNat 8 h.window.val] ++ be16 h.id ++
              [BitVec.ofNat 8 s.handEntries.length, BitVec.ofNat 8 h.written]
            | none => [0x00, 0x00, 0x00, 0x00, 0x00, 0x00]) ++
          BitVec.ofNat 8 s.engine.queue.length ::
            s.engine.queue.flatMap fun q => BitVec.ofNat 8 q.1.val :: be16 q.2)
        { s with engine := { s.engine with gate := .held } })) ∧
  (∀ (tag : Byte) (s : State),
      s.takesCommands →
      exec (.gateOpen tag) s = .next (State.answered tag .ok
        ([0x00, s.engine.state.code, if s.engine.fullReset then 0x01 else 0x00, BitVec.ofNat 8 s.engine.undo.length] ++
          (match s.engine.inHand with
            | some h => [0x01, BitVec.ofNat 8 h.window.val] ++ be16 h.id ++
              [BitVec.ofNat 8 s.handEntries.length, BitVec.ofNat 8 h.written]
            | none => [0x00, 0x00, 0x00, 0x00, 0x00, 0x00]) ++
          BitVec.ofNat 8 s.engine.queue.length ::
            s.engine.queue.flatMap fun q => BitVec.ofNat 8 q.1.val :: be16 q.2)
        { s with engine := { s.engine with gate := .opened } })) ∧
  (∀ (tag : Byte) (s : State),
      s.takesCommands →
      exec (.gateRead tag) s = .next (State.answered tag .ok
        ([s.engine.gate.code, s.engine.state.code, if s.engine.fullReset then 0x01 else 0x00, BitVec.ofNat 8
            s.engine.undo.length] ++
          (match s.engine.inHand with
            | some h => [0x01, BitVec.ofNat 8 h.window.val] ++ be16 h.id ++
              [BitVec.ofNat 8 s.handEntries.length, BitVec.ofNat 8 h.written]
            | none => [0x00, 0x00, 0x00, 0x00, 0x00, 0x00]) ++
          BitVec.ofNat 8 s.engine.queue.length ::
            s.engine.queue.flatMap fun q => BitVec.ofNat 8 q.1.val :: be16 q.2) s)) ∧
  (∀ (h : BatchInHand) (b : WaitBatch) (older newer : List WaitBatch) (s : State),
      s.engine.inHand = some h → (s.win h.window).waiting = older ++ b :: newer →
      (b.state = .committing ∨ b.state = .rollingBack) →
      older.all (fun c => c.state != .committing && c.state != .rollingBack) = true → s.handEntries = b.entries) ∧
  (∀ (s : State),
      s.engine.inHand = none → s.handEntries = []) ∧
  (∀ (h : BatchInHand) (s : State),
      s.engine.inHand = some h →
      (s.win h.window).waiting.all (fun c => c.state != .committing && c.state != .rollingBack) = true → s.handEntries = [])

/-- R155 as an invariant of every step. -/
def Obligations.AttnLawKept : Prop :=
  (∀ (s t : State),
      s.attnLaw → step s = .next t → t.attnLaw) ∧
  (∀ (s : State),
      s.attnLevel = (!s.pins.resetn && (decide (s.rep.watermark.toNat ≤ s.rep.queue.length) ||
        (decide (s.rep.queue ≠ []) && s.rep.idleRunOut) || decide (s.engine.state = .halted) ||
        (match s.svc.slot with
          | .ready _ _ _ => true
          | _ => false)))) ∧
  (State.reset.attnLaw)

/-- The laws of R146, R148 and R151. -/
def Obligations.ReportQueueLawKept : Prop :=
  (∀ (s t : State),
      s.rep.law → step s = .next t → t.rep.law) ∧
  (State.reset.rep.law)

/-- The ranges of R64, R130 and R142, and the states of R65. -/
def Obligations.SettingsAndLinesLawKept : Prop :=
  (∀ (s t : State),
      s.rangeLaw → step s = .next t → t.rangeLaw) ∧
  (∀ (s t : State),
      s.lineLaw → step s = .next t → t.lineLaw) ∧
  (State.reset.rangeLaw ∧ State.reset.lineLaw)

/-- The laws of R13, R18, R20 and R24, and under the first of them the decode of R2, R10 and R11. -/
def Obligations.WindowAndStagingLawsKept : Prop :=
  (∀ (s t : State),
      s.windowLaw → step s = .next t → t.windowLaw) ∧
  (∀ (s t : State),
      s.batchLaw → step s = .next t → t.batchLaw) ∧
  (∀ (s t : State),
      s.capacityLaw → step s = .next t → t.capacityLaw) ∧
  (∀ (a : Word) (i j : WIdx) (s : State),
      s.windowLaw → (s.win i).place.hits a = true → (s.win j).place.hits a = true → i = j) ∧
  (∀ (a : Word) (i : WIdx) (s : State),
      s.windowLaw → (s.win i).place.hits a = true →
      s.decodeAddr a =
        (match (s.win i).place with
          | .free => .unmapped
          | .faulted _ => .faulted i
          | .active d =>
            match d.cls with
            | .pass => .pass i d.updateAccess d.cycleAccess d.tap
            | .held h => .held i d.updateAccess d.cycleAccess d.tap h)) ∧
  (∀ (a : Word) (s : State),
      (∀ i : WIdx, (s.win i).place.hits a = false) → s.decodeAddr a = .unmapped) ∧
  (∀ (p : Place) (a : Word),
      p.hits a = true ↔ ∃ d, (p = .active d ∨ p = .faulted d) ∧
          d.base.toNat ≤ a.toNat ∧ a.toNat < d.base.toNat + d.size.toNat) ∧
  (State.reset.windowLaw ∧ State.reset.batchLaw ∧ State.reset.capacityLaw)

/-- The laws of R79, R80, R89, R107, R124, R131 and R167, which rest on each other. -/
def Obligations.DeviceLawKept : Prop :=
  (∀ (s t : State),
      s.deviceLaw → step s = .next t → t.deviceLaw) ∧
  (State.reset.deviceLaw)

/-- Consequences of the device law: R80, R89, R107. -/
def Obligations.HaltedExactlyWhenFaulted : Prop :=
  ∀ (s : State),
    s.deviceLaw →
    ((∃ i : WIdx, (s.win i).place.isFaulted = true) ↔ s.engine.state = .halted) ∧
      (∀ i j : WIdx, (s.win i).place.isFaulted = true → (s.win j).place.isFaulted = true → i = j) ∧
      (∀ i : WIdx, (s.win i).place.isFaulted = true → s.engine.context.map (·.window) = some i) ∧
      s.engine.undo.length ≤ 64 ∧ (s.engine.state = .idle → s.engine.undo = []) ∧
      (∀ i j : WIdx, (s.win i).batchAtWork ≠ none → (s.win j).batchAtWork ≠ none → i = j) ∧ s.engine.queue.length ≤ 16
end

