-- ==== Sys2Proof/Laws/State.lean ====
section
/-! SUPPORT. What each update of State leaves in each field, and windows read back after an update. -/

namespace Sys2Proof.Machine

/-! ### State.record -/

@[simp] theorem State.record_pins (b : RecordBody) (s : State) : (s.record b).pins = s.pins := rfl
@[simp] theorem State.record_windows (b : RecordBody) (s : State) : (s.record b).windows = s.windows := rfl
@[simp] theorem State.record_store (b : RecordBody) (s : State) : (s.record b).store = s.store := rfl
@[simp] theorem State.record_upd (b : RecordBody) (s : State) : (s.record b).upd = s.upd := rfl
@[simp] theorem State.record_cyc (b : RecordBody) (s : State) : (s.record b).cyc = s.cyc := rfl
@[simp] theorem State.record_epoch (b : RecordBody) (s : State) : (s.record b).epoch = s.epoch := rfl
@[simp] theorem State.record_engine (b : RecordBody) (s : State) : (s.record b).engine = s.engine := rfl
@[simp] theorem State.record_arb (b : RecordBody) (s : State) : (s.record b).arb = s.arb := rfl
@[simp] theorem State.record_rep (b : RecordBody) (s : State) : (s.record b).rep = s.rep.take b := rfl
@[simp] theorem State.record_svc (b : RecordBody) (s : State) : (s.record b).svc = s.svc := rfl
@[simp] theorem State.record_pending (b : RecordBody) (s : State) : (s.record b).pending = s.pending := rfl
@[simp] theorem State.record_win (b : RecordBody) (s : State) (i : WIdx) : (s.record b).win i = s.win i := rfl

/-! ### State.setWin -/

@[simp] theorem State.setWin_pins (i : WIdx) (w : Window) (s : State) : (s.setWin i w).pins = s.pins := rfl
@[simp] theorem State.setWin_windows (i : WIdx) (w : Window) (s : State) :
    (s.setWin i w).windows = s.windows.set i.val w i.isLt := rfl
@[simp] theorem State.setWin_store (i : WIdx) (w : Window) (s : State) : (s.setWin i w).store = s.store := rfl
@[simp] theorem State.setWin_upd (i : WIdx) (w : Window) (s : State) : (s.setWin i w).upd = s.upd := rfl
@[simp] theorem State.setWin_cyc (i : WIdx) (w : Window) (s : State) : (s.setWin i w).cyc = s.cyc := rfl
@[simp] theorem State.setWin_epoch (i : WIdx) (w : Window) (s : State) : (s.setWin i w).epoch = s.epoch := rfl
@[simp] theorem State.setWin_engine (i : WIdx) (w : Window) (s : State) : (s.setWin i w).engine = s.engine := rfl
@[simp] theorem State.setWin_arb (i : WIdx) (w : Window) (s : State) : (s.setWin i w).arb = s.arb := rfl
@[simp] theorem State.setWin_rep (i : WIdx) (w : Window) (s : State) : (s.setWin i w).rep = s.rep := rfl
@[simp] theorem State.setWin_svc (i : WIdx) (w : Window) (s : State) : (s.setWin i w).svc = s.svc := rfl
@[simp] theorem State.setWin_pending (i : WIdx) (w : Window) (s : State) : (s.setWin i w).pending = s.pending := rfl

/-! ### State.mapWin -/

@[simp] theorem State.mapWin_pins (i : WIdx) (f : Window → Window) (s : State) : (s.mapWin i f).pins = s.pins := rfl
@[simp] theorem State.mapWin_windows (i : WIdx) (f : Window → Window) (s : State) :
    (s.mapWin i f).windows = s.windows.set i.val (f (s.win i)) i.isLt := rfl
@[simp] theorem State.mapWin_store (i : WIdx) (f : Window → Window) (s : State) : (s.mapWin i f).store = s.store := rfl
@[simp] theorem State.mapWin_upd (i : WIdx) (f : Window → Window) (s : State) : (s.mapWin i f).upd = s.upd := rfl
@[simp] theorem State.mapWin_cyc (i : WIdx) (f : Window → Window) (s : State) : (s.mapWin i f).cyc = s.cyc := rfl
@[simp] theorem State.mapWin_epoch (i : WIdx) (f : Window → Window) (s : State) : (s.mapWin i f).epoch = s.epoch := rfl
@[simp] theorem State.mapWin_engine (i : WIdx) (f : Window → Window) (s : State) : (s.mapWin i f).engine = s.engine := rfl
@[simp] theorem State.mapWin_arb (i : WIdx) (f : Window → Window) (s : State) : (s.mapWin i f).arb = s.arb := rfl
@[simp] theorem State.mapWin_rep (i : WIdx) (f : Window → Window) (s : State) : (s.mapWin i f).rep = s.rep := rfl
@[simp] theorem State.mapWin_svc (i : WIdx) (f : Window → Window) (s : State) : (s.mapWin i f).svc = s.svc := rfl
@[simp] theorem State.mapWin_pending (i : WIdx) (f : Window → Window) (s : State) : (s.mapWin i f).pending = s.pending := rfl

/-! ### State.answerUpdate -/

@[simp] theorem State.answerUpdate_pins (a : Answer) (s : State) : (s.answerUpdate a).pins = s.pins := rfl
@[simp] theorem State.answerUpdate_windows (a : Answer) (s : State) : (s.answerUpdate a).windows = s.windows := rfl
@[simp] theorem State.answerUpdate_store (a : Answer) (s : State) : (s.answerUpdate a).store = s.store := rfl
@[simp] theorem State.answerUpdate_upd (a : Answer) (s : State) :
    (s.answerUpdate a).upd = { s.upd with state := .idle, answer := some a } := rfl
@[simp] theorem State.answerUpdate_cyc (a : Answer) (s : State) : (s.answerUpdate a).cyc = s.cyc := rfl
@[simp] theorem State.answerUpdate_epoch (a : Answer) (s : State) : (s.answerUpdate a).epoch = s.epoch := rfl
@[simp] theorem State.answerUpdate_engine (a : Answer) (s : State) : (s.answerUpdate a).engine = s.engine := rfl
@[simp] theorem State.answerUpdate_arb (a : Answer) (s : State) : (s.answerUpdate a).arb = s.arb := rfl
@[simp] theorem State.answerUpdate_rep (a : Answer) (s : State) : (s.answerUpdate a).rep = s.rep := rfl
@[simp] theorem State.answerUpdate_svc (a : Answer) (s : State) : (s.answerUpdate a).svc = s.svc := rfl
@[simp] theorem State.answerUpdate_pending (a : Answer) (s : State) : (s.answerUpdate a).pending = s.pending := rfl
@[simp] theorem State.answerUpdate_win (a : Answer) (s : State) (i : WIdx) : (s.answerUpdate a).win i = s.win i := rfl

/-! ### State.answerCycle -/

@[simp] theorem State.answerCycle_pins (a : Answer) (s : State) : (s.answerCycle a).pins = s.pins := rfl
@[simp] theorem State.answerCycle_windows (a : Answer) (s : State) : (s.answerCycle a).windows = s.windows := rfl
@[simp] theorem State.answerCycle_store (a : Answer) (s : State) : (s.answerCycle a).store = s.store := rfl
@[simp] theorem State.answerCycle_upd (a : Answer) (s : State) : (s.answerCycle a).upd = s.upd := rfl
@[simp] theorem State.answerCycle_cyc (a : Answer) (s : State) :
    (s.answerCycle a).cyc = { s.cyc with state := .idle, answer := some a } := rfl
@[simp] theorem State.answerCycle_epoch (a : Answer) (s : State) : (s.answerCycle a).epoch = s.epoch := rfl
@[simp] theorem State.answerCycle_engine (a : Answer) (s : State) : (s.answerCycle a).engine = s.engine := rfl
@[simp] theorem State.answerCycle_arb (a : Answer) (s : State) : (s.answerCycle a).arb = s.arb := rfl
@[simp] theorem State.answerCycle_rep (a : Answer) (s : State) : (s.answerCycle a).rep = s.rep := rfl
@[simp] theorem State.answerCycle_svc (a : Answer) (s : State) : (s.answerCycle a).svc = s.svc := rfl
@[simp] theorem State.answerCycle_pending (a : Answer) (s : State) : (s.answerCycle a).pending = s.pending := rfl
@[simp] theorem State.answerCycle_win (a : Answer) (s : State) (i : WIdx) : (s.answerCycle a).win i = s.win i := rfl

/-! ### State.placeUpdate -/

@[simp] theorem State.placeUpdate_pins (t : UpdateTxn) (s : State) : (s.placeUpdate t).pins = s.pins := rfl
@[simp] theorem State.placeUpdate_windows (t : UpdateTxn) (s : State) : (s.placeUpdate t).windows = s.windows := rfl
@[simp] theorem State.placeUpdate_store (t : UpdateTxn) (s : State) : (s.placeUpdate t).store = s.store := rfl
@[simp] theorem State.placeUpdate_upd (t : UpdateTxn) (s : State) :
    (s.placeUpdate t).upd = { s.upd with state := .requested t } := rfl
@[simp] theorem State.placeUpdate_cyc (t : UpdateTxn) (s : State) : (s.placeUpdate t).cyc = s.cyc := rfl
@[simp] theorem State.placeUpdate_epoch (t : UpdateTxn) (s : State) : (s.placeUpdate t).epoch = s.epoch := rfl
@[simp] theorem State.placeUpdate_engine (t : UpdateTxn) (s : State) : (s.placeUpdate t).engine = s.engine := rfl
@[simp] theorem State.placeUpdate_arb (t : UpdateTxn) (s : State) : (s.placeUpdate t).arb = { s.arb with up := some t.req } := rfl
@[simp] theorem State.placeUpdate_rep (t : UpdateTxn) (s : State) : (s.placeUpdate t).rep = s.rep := rfl
@[simp] theorem State.placeUpdate_svc (t : UpdateTxn) (s : State) : (s.placeUpdate t).svc = s.svc := rfl
@[simp] theorem State.placeUpdate_pending (t : UpdateTxn) (s : State) : (s.placeUpdate t).pending = s.pending := rfl
@[simp] theorem State.placeUpdate_win (t : UpdateTxn) (s : State) (i : WIdx) : (s.placeUpdate t).win i = s.win i := rfl

/-! ### State.placeCycle -/

@[simp] theorem State.placeCycle_pins (t : CycleTxn) (s : State) : (s.placeCycle t).pins = s.pins := rfl
@[simp] theorem State.placeCycle_windows (t : CycleTxn) (s : State) : (s.placeCycle t).windows = s.windows := rfl
@[simp] theorem State.placeCycle_store (t : CycleTxn) (s : State) : (s.placeCycle t).store = s.store := rfl
@[simp] theorem State.placeCycle_upd (t : CycleTxn) (s : State) : (s.placeCycle t).upd = s.upd := rfl
@[simp] theorem State.placeCycle_cyc (t : CycleTxn) (s : State) :
    (s.placeCycle t).cyc = { s.cyc with state := .requested t } := rfl
@[simp] theorem State.placeCycle_epoch (t : CycleTxn) (s : State) : (s.placeCycle t).epoch = s.epoch := rfl
@[simp] theorem State.placeCycle_engine (t : CycleTxn) (s : State) : (s.placeCycle t).engine = s.engine := rfl
@[simp] theorem State.placeCycle_arb (t : CycleTxn) (s : State) : (s.placeCycle t).arb = { s.arb with cp := some t.req } := rfl
@[simp] theorem State.placeCycle_rep (t : CycleTxn) (s : State) : (s.placeCycle t).rep = s.rep := rfl
@[simp] theorem State.placeCycle_svc (t : CycleTxn) (s : State) : (s.placeCycle t).svc = s.svc := rfl
@[simp] theorem State.placeCycle_pending (t : CycleTxn) (s : State) : (s.placeCycle t).pending = s.pending := rfl
@[simp] theorem State.placeCycle_win (t : CycleTxn) (s : State) (i : WIdx) : (s.placeCycle t).win i = s.win i := rfl

/-! ### State.placeCommit -/

@[simp] theorem State.placeCommit_pins (r : BusRequest) (s : State) : (s.placeCommit r).pins = s.pins := rfl
@[simp] theorem State.placeCommit_windows (r : BusRequest) (s : State) : (s.placeCommit r).windows = s.windows := rfl
@[simp] theorem State.placeCommit_store (r : BusRequest) (s : State) : (s.placeCommit r).store = s.store := rfl
@[simp] theorem State.placeCommit_upd (r : BusRequest) (s : State) : (s.placeCommit r).upd = s.upd := rfl
@[simp] theorem State.placeCommit_cyc (r : BusRequest) (s : State) : (s.placeCommit r).cyc = s.cyc := rfl
@[simp] theorem State.placeCommit_epoch (r : BusRequest) (s : State) : (s.placeCommit r).epoch = s.epoch := rfl
@[simp] theorem State.placeCommit_engine (r : BusRequest) (s : State) : (s.placeCommit r).engine = s.engine := rfl
@[simp] theorem State.placeCommit_arb (r : BusRequest) (s : State) : (s.placeCommit r).arb = { s.arb with ce := some r } := rfl
@[simp] theorem State.placeCommit_rep (r : BusRequest) (s : State) : (s.placeCommit r).rep = s.rep := rfl
@[simp] theorem State.placeCommit_svc (r : BusRequest) (s : State) : (s.placeCommit r).svc = s.svc := rfl
@[simp] theorem State.placeCommit_pending (r : BusRequest) (s : State) : (s.placeCommit r).pending = s.pending := rfl
@[simp] theorem State.placeCommit_win (r : BusRequest) (s : State) (i : WIdx) : (s.placeCommit r).win i = s.win i := rfl

/-! ### State.emptySlot -/

@[simp] theorem State.emptySlot_pins (i : WIdx) (s : State) : (s.emptySlot i).pins = s.pins := rfl
@[simp] theorem State.emptySlot_windows (i : WIdx) (s : State) :
    (s.emptySlot i).windows = s.windows.set i.val { s.win i with openBatch := none } i.isLt := rfl
@[simp] theorem State.emptySlot_store (i : WIdx) (s : State) : (s.emptySlot i).store = s.store := rfl
@[simp] theorem State.emptySlot_upd (i : WIdx) (s : State) : (s.emptySlot i).upd = s.upd := rfl
@[simp] theorem State.emptySlot_cyc (i : WIdx) (s : State) : (s.emptySlot i).cyc = s.cyc := rfl
@[simp] theorem State.emptySlot_epoch (i : WIdx) (s : State) : (s.emptySlot i).epoch = s.epoch := rfl
@[simp] theorem State.emptySlot_engine (i : WIdx) (s : State) : (s.emptySlot i).engine = s.engine := rfl
@[simp] theorem State.emptySlot_arb (i : WIdx) (s : State) : (s.emptySlot i).arb = s.arb := rfl
@[simp] theorem State.emptySlot_rep (i : WIdx) (s : State) : (s.emptySlot i).rep = s.rep := rfl
@[simp] theorem State.emptySlot_svc (i : WIdx) (s : State) : (s.emptySlot i).svc = s.svc := rfl
@[simp] theorem State.emptySlot_pending (i : WIdx) (s : State) : (s.emptySlot i).pending = s.pending := rfl

/-! ### State.judgeAttn -/

@[simp] theorem State.judgeAttn_pins (s : State) : (s.judgeAttn).pins = s.pins := rfl
@[simp] theorem State.judgeAttn_windows (s : State) : (s.judgeAttn).windows = s.windows := rfl
@[simp] theorem State.judgeAttn_store (s : State) : (s.judgeAttn).store = s.store := rfl
@[simp] theorem State.judgeAttn_upd (s : State) : (s.judgeAttn).upd = s.upd := rfl
@[simp] theorem State.judgeAttn_cyc (s : State) : (s.judgeAttn).cyc = s.cyc := rfl
@[simp] theorem State.judgeAttn_epoch (s : State) : (s.judgeAttn).epoch = s.epoch := rfl
@[simp] theorem State.judgeAttn_engine (s : State) : (s.judgeAttn).engine = s.engine := rfl
@[simp] theorem State.judgeAttn_arb (s : State) : (s.judgeAttn).arb = s.arb := rfl
@[simp] theorem State.judgeAttn_rep (s : State) : (s.judgeAttn).rep = { s.rep with attn := s.attnLevel } := rfl
@[simp] theorem State.judgeAttn_svc (s : State) : (s.judgeAttn).svc = s.svc := rfl
@[simp] theorem State.judgeAttn_pending (s : State) : (s.judgeAttn).pending = s.pending := rfl
@[simp] theorem State.judgeAttn_win (s : State) (i : WIdx) : (s.judgeAttn).win i = s.win i := rfl

/-! ### State.dropRequest -/

@[simp] theorem State.dropRequest_pins (s : State) : (s.dropRequest).pins = s.pins := rfl
@[simp] theorem State.dropRequest_windows (s : State) : (s.dropRequest).windows = s.windows := rfl
@[simp] theorem State.dropRequest_store (s : State) : (s.dropRequest).store = s.store := rfl
@[simp] theorem State.dropRequest_upd (s : State) : (s.dropRequest).upd = s.upd := rfl
@[simp] theorem State.dropRequest_cyc (s : State) : (s.dropRequest).cyc = s.cyc := rfl
@[simp] theorem State.dropRequest_epoch (s : State) : (s.dropRequest).epoch = s.epoch := rfl
@[simp] theorem State.dropRequest_engine (s : State) : (s.dropRequest).engine = s.engine := rfl
@[simp] theorem State.dropRequest_arb (s : State) : (s.dropRequest).arb = s.arb := rfl
@[simp] theorem State.dropRequest_rep (s : State) : (s.dropRequest).rep = s.rep := rfl
@[simp] theorem State.dropRequest_svc (s : State) : (s.dropRequest).svc = { s.svc with dropped := satInc s.svc.dropped } := rfl
@[simp] theorem State.dropRequest_pending (s : State) : (s.dropRequest).pending = s.pending := rfl
@[simp] theorem State.dropRequest_win (s : State) (i : WIdx) : (s.dropRequest).win i = s.win i := rfl

/-! ### State.portFreed -/

@[simp] theorem State.portFreed_pins (s : State) : (s.portFreed).pins = s.pins := rfl
@[simp] theorem State.portFreed_windows (s : State) : (s.portFreed).windows = s.windows := rfl
@[simp] theorem State.portFreed_store (s : State) : (s.portFreed).store = s.store := rfl
@[simp] theorem State.portFreed_upd (s : State) : (s.portFreed).upd = s.upd := rfl
@[simp] theorem State.portFreed_cyc (s : State) : (s.portFreed).cyc = s.cyc := rfl
@[simp] theorem State.portFreed_epoch (s : State) : (s.portFreed).epoch = s.epoch := rfl
@[simp] theorem State.portFreed_engine (s : State) : (s.portFreed).engine = s.engine := rfl
@[simp] theorem State.portFreed_arb (s : State) : (s.portFreed).arb = { s.arb with port := none } := rfl
@[simp] theorem State.portFreed_rep (s : State) : (s.portFreed).rep = s.rep := rfl
@[simp] theorem State.portFreed_svc (s : State) : (s.portFreed).svc = s.svc := rfl
@[simp] theorem State.portFreed_pending (s : State) : (s.portFreed).pending = s.pending := rfl
@[simp] theorem State.portFreed_win (s : State) (i : WIdx) : (s.portFreed).win i = s.win i := rfl

/-! ### State.presentUpdate -/

@[simp] theorem State.presentUpdate_pins (r : BusRequest) (s : State) : (s.presentUpdate r).pins = s.pins := rfl
@[simp] theorem State.presentUpdate_windows (r : BusRequest) (s : State) : (s.presentUpdate r).windows = s.windows := rfl
@[simp] theorem State.presentUpdate_store (r : BusRequest) (s : State) : (s.presentUpdate r).store = s.store := rfl
@[simp] theorem State.presentUpdate_upd (r : BusRequest) (s : State) :
    (s.presentUpdate r).upd = { s.upd with waiting := s.upd.waiting ++ [r] } := rfl
@[simp] theorem State.presentUpdate_cyc (r : BusRequest) (s : State) : (s.presentUpdate r).cyc = s.cyc := rfl
@[simp] theorem State.presentUpdate_epoch (r : BusRequest) (s : State) : (s.presentUpdate r).epoch = s.epoch := rfl
@[simp] theorem State.presentUpdate_engine (r : BusRequest) (s : State) : (s.presentUpdate r).engine = s.engine := rfl
@[simp] theorem State.presentUpdate_arb (r : BusRequest) (s : State) : (s.presentUpdate r).arb = s.arb := rfl
@[simp] theorem State.presentUpdate_rep (r : BusRequest) (s : State) : (s.presentUpdate r).rep = s.rep := rfl
@[simp] theorem State.presentUpdate_svc (r : BusRequest) (s : State) : (s.presentUpdate r).svc = s.svc := rfl
@[simp] theorem State.presentUpdate_pending (r : BusRequest) (s : State) : (s.presentUpdate r).pending = s.pending := rfl
@[simp] theorem State.presentUpdate_win (r : BusRequest) (s : State) (i : WIdx) : (s.presentUpdate r).win i = s.win i := rfl

/-! ### State.presentCycle -/

@[simp] theorem State.presentCycle_pins (r : BusRequest) (s : State) : (s.presentCycle r).pins = s.pins := rfl
@[simp] theorem State.presentCycle_windows (r : BusRequest) (s : State) : (s.presentCycle r).windows = s.windows := rfl
@[simp] theorem State.presentCycle_store (r : BusRequest) (s : State) : (s.presentCycle r).store = s.store := rfl
@[simp] theorem State.presentCycle_upd (r : BusRequest) (s : State) : (s.presentCycle r).upd = s.upd := rfl
@[simp] theorem State.presentCycle_cyc (r : BusRequest) (s : State) :
    (s.presentCycle r).cyc = { s.cyc with waiting := s.cyc.waiting ++ [r] } := rfl
@[simp] theorem State.presentCycle_epoch (r : BusRequest) (s : State) : (s.presentCycle r).epoch = s.epoch := rfl
@[simp] theorem State.presentCycle_engine (r : BusRequest) (s : State) : (s.presentCycle r).engine = s.engine := rfl
@[simp] theorem State.presentCycle_arb (r : BusRequest) (s : State) : (s.presentCycle r).arb = s.arb := rfl
@[simp] theorem State.presentCycle_rep (r : BusRequest) (s : State) : (s.presentCycle r).rep = s.rep := rfl
@[simp] theorem State.presentCycle_svc (r : BusRequest) (s : State) : (s.presentCycle r).svc = s.svc := rfl
@[simp] theorem State.presentCycle_pending (r : BusRequest) (s : State) : (s.presentCycle r).pending = s.pending := rfl
@[simp] theorem State.presentCycle_win (r : BusRequest) (s : State) (i : WIdx) : (s.presentCycle r).win i = s.win i := rfl

/-! ### Windows read back -/

@[simp] theorem State.setWin_win_same (i : WIdx) (w : Window) (s : State) : (s.setWin i w).win i = w := by
  simp [State.setWin, State.win]

theorem State.setWin_win_other (i j : WIdx) (w : Window) (s : State) (h : i ≠ j) : (s.setWin i w).win j = s.win j := by
  have h' : i.val ≠ j.val := fun e => h (Fin.ext e)
  simp [State.setWin, State.win, h']

theorem State.setWin_win (i j : WIdx) (w : Window) (s : State) : (s.setWin i w).win j = if i = j then w else s.win j := by
  by_cases h : i = j
  · subst h; simp
  · simp [h, State.setWin_win_other]

@[simp] theorem State.mapWin_win_same (i : WIdx) (f : Window → Window) (s : State) : (s.mapWin i f).win i = f (s.win i) := by
  simp [State.mapWin]

theorem State.mapWin_win_other (i j : WIdx) (f : Window → Window) (s : State) (h : i ≠ j) : (s.mapWin i f).win j = s.win j := by
  simp [State.mapWin, State.setWin_win_other, h]

@[simp] theorem State.setWin_setWin (i : WIdx) (v w : Window) (s : State) : (s.setWin i v).setWin i w = s.setWin i w := by
  simp [State.setWin]

theorem State.mapWin_eq_setWin (i : WIdx) (f : Window → Window) (s : State) : s.mapWin i f = s.setWin i (f (s.win i)) := rfl

@[simp] theorem State.setWin_win_self (i : WIdx) (s : State) : s.setWin i (s.win i) = s := by
  have h : s.windows.set i.val (s.win i) i.isLt = s.windows := by
    simp [State.win]
  simp [State.setWin, h]

end Sys2Proof.Machine
end

