-- ==== Sys2Proof/Laws/Ops.lean ====
section
/-! SUPPORT. One lemma for each shared operation: what it can do, and which blocks it leaves alone (its frame). -/

namespace Sys2Proof.Machine

/-! ### Events and the command slot -/

/-- A settled state owes nothing, so settling changes nothing. -/
theorem State.settle_of_settled (s : State) (h : s.settled) : s.settle = s := by
  obtain ⟨_, h⟩ := h
  simp only [State.owes, Bool.or_eq_false_iff] at h
  obtain ⟨⟨⟨h1, h2⟩, h3⟩, h4⟩ := h
  have hu : ∀ l, s.upd.waiting = l → s.takeUpdates l = s := by
    rintro (_ | ⟨r, l⟩) e
    · rfl
    · simp only [State.updateTakeDue, e, List.isEmpty_cons, Bool.not_false, Bool.and_true] at h3
      simp [State.takeUpdates, h3]
  have hc : ∀ l, s.cyc.waiting = l → s.takeCycles l = s := by
    rintro (_ | ⟨r, l⟩) e
    · rfl
    · simp only [State.cycleTakeDue, e, List.isEmpty_cons, Bool.not_false, Bool.and_true] at h4
      simp [State.takeCycles, h4]
  simp [State.settle, State.settleWork, State.takeWaiting, h1, h2, hu, hc]

/-- An event in a settled state is its own effect, ATTN judged. -/
theorem event_of_settled (f : State → State) (s : State) (h : s.settled) : event f s = .next (f s).judgeAttn := by
  simp [event, h.1, State.settle_of_settled s h]

/-- While RESETN is asserted an event has no effect. -/
theorem event_in_reset (f : State → State) (s : State) (h : s.pins.resetn = true) : event f s = .next s := by
  simp [event, h]

/-- An event always answers a next state. -/
theorem event_next (f : State → State) (s : State) :
    event f s = .next (if s.pins.resetn then s else (f s.settle).judgeAttn) := by
  unfold event; split <;> rfl

/-- Deciding a link transaction's frame changes its phase alone. -/
theorem State.endFrame_frame (s : State) :
    s.endFrame = { s with svc := { s.svc with link := s.endFrame.svc.link } } := by
  unfold State.endFrame
  split
  · split <;> rfl
  · rfl

/-- The slot, the dropped count and the probe stay over the decision of a frame. -/
theorem State.endFrame_svc (s : State) :
    s.endFrame.svc.slot = s.svc.slot ∧ s.endFrame.svc.dropped = s.svc.dropped ∧ s.endFrame.svc.probe = s.svc.probe := by
  rw [State.endFrame_frame]; simp

/-- A request that finds the slot IDLE is taken into it and carried out. -/
theorem State.takeRequest_idle (tag code : Byte) (p : List Byte) (op : State → State) (s : State) (h : s.svc.slot = .idle) :
    s.takeRequest tag code p op = op { s with svc := { s.endFrame.svc with slot := .working tag code p } } := by
  have e := s.endFrame_svc.1
  rw [h] at e
  simp only [State.takeRequest, e]
  rw [State.endFrame_frame]

/-- A request that finds the slot busy is dropped and counted. -/
theorem State.takeRequest_busy (tag code : Byte) (p : List Byte) (op : State → State) (s : State) (h : s.svc.slot ≠ .idle) :
    s.takeRequest tag code p op = s.endFrame.dropRequest := by
  have e := s.endFrame_svc.1
  simp only [State.takeRequest]
  split
  · rename_i h'; exact absurd (e ▸ h') h
  · rfl

/-- What a service command answers when it is taken: its effect on the state whose slot holds it. -/
theorem event_takeRequest (tag code : Byte) (p : List Byte) (op : State → State) (s : State) (h : s.takesCommands) :
    event (State.takeRequest tag code p op) s =
      .next (op { s with svc := { s.endFrame.svc with slot := .working tag code p } }).judgeAttn := by
  rw [event_of_settled _ _ h.1, State.takeRequest_idle _ _ _ _ _ h.2]

/-- A reply of the command in the slot. -/
theorem State.reply_working (r : Result) (q : List Byte) (s : State) (tag code : Byte) (p : List Byte)
    (h : s.svc.slot = .working tag code p) :
    s.reply r q = { s with svc := { s.svc with slot := .ready tag r q } } := by
  simp [State.reply, h]

/-- A command that only answers leaves the state answered. -/
theorem event_takeRequest_reply (tag code : Byte) (p : List Byte) (r : Result) (q : List Byte) (s : State)
    (h : s.takesCommands) :
    event (State.takeRequest tag code p (State.reply r q)) s = .next (State.answered tag r q s) := by
  rw [event_takeRequest _ _ _ _ _ h]
  simp [State.reply, State.answered]

/-! ### Time -/

/-- No time: nothing passes for a timer. -/
theorem runUp_zero (limit elapsed : Nat) : runUp 0 limit elapsed = elapsed := by
  unfold runUp; split <;> omega

/-- Up to its limit, a timer counts what passes. -/
theorem runUp_of_le (n limit elapsed : Nat) (h : elapsed + n ≤ limit) : runUp n limit elapsed = elapsed + n := by
  unfold runUp; split <;> omega

/-! ### The commit queue -/

/-- What queueing the oldest CLOSED batch does, when it can. -/
theorem Window.queueOldest_cons (stamp : Option Stamp) (w : Window) (b : WaitBatch) (ws : List WaitBatch)
    (h : w.waiting = b :: ws) (hi : w.idle = true) :
    w.queueOldest stamp = some (b.id, { w with waiting := { b with state := .queued, stamp := stamp } :: ws }) := by
  simp [Window.queueOldest, hi, h]

/-- Nothing is queued from a window that is not idle or has nothing waiting. -/
theorem Window.queueOldest_none (stamp : Option Stamp) (w : Window) (h : w.idle = false ∨ w.waiting = []) :
    w.queueOldest stamp = none := by
  unfold Window.queueOldest
  rcases h with h | h <;> simp [h]


/-! ### Frames -/

/-- State.faultHeldOf changes upd alone. -/
theorem State.faultHeldOf_frame (i : WIdx) (s : State) :
    (s.faultHeldOf i).pins = s.pins ∧ (s.faultHeldOf i).windows = s.windows ∧ (s.faultHeldOf i).store = s.store ∧
      (s.faultHeldOf i).cyc = s.cyc ∧ (s.faultHeldOf i).epoch = s.epoch ∧ (s.faultHeldOf i).engine = s.engine ∧
      (s.faultHeldOf i).arb = s.arb ∧ (s.faultHeldOf i).rep = s.rep ∧ (s.faultHeldOf i).svc = s.svc ∧
      (s.faultHeldOf i).pending = s.pending := by
  unfold State.faultHeldOf
  (repeat' split) <;> simp

/-- State.faultHeld changes upd alone. -/
theorem State.faultHeld_frame (s : State) :
    (s.faultHeld).pins = s.pins ∧ (s.faultHeld).windows = s.windows ∧ (s.faultHeld).store = s.store ∧
      (s.faultHeld).cyc = s.cyc ∧ (s.faultHeld).epoch = s.epoch ∧ (s.faultHeld).engine = s.engine ∧
      (s.faultHeld).arb = s.arb ∧ (s.faultHeld).rep = s.rep ∧ (s.faultHeld).svc = s.svc ∧
      (s.faultHeld).pending = s.pending := by
  unfold State.faultHeld
  (repeat' split) <;> simp

/-- State.queueImmediate changes windows, engine alone. -/
theorem State.queueImmediate_frame (i : WIdx) (s : State) :
    (s.queueImmediate i).pins = s.pins ∧ (s.queueImmediate i).store = s.store ∧ (s.queueImmediate i).upd = s.upd ∧
      (s.queueImmediate i).cyc = s.cyc ∧ (s.queueImmediate i).epoch = s.epoch ∧ (s.queueImmediate i).arb = s.arb ∧
      (s.queueImmediate i).rep = s.rep ∧ (s.queueImmediate i).svc = s.svc ∧ (s.queueImmediate i).pending = s.pending := by
  unfold State.queueImmediate
  split
  · split
    · unfold State.queueFrom
      split <;> simp
    · simp
  · simp

/-- State.closeBatch changes windows, engine alone. -/
theorem State.closeBatch_frame (i : WIdx) (id : Half) (es : List Entry) (cause : CloseCause) (s : State) :
    (s.closeBatch i id es cause).pins = s.pins ∧ (s.closeBatch i id es cause).store = s.store ∧ (s.closeBatch i id es cause).upd = s.upd ∧
      (s.closeBatch i id es cause).cyc = s.cyc ∧ (s.closeBatch i id es cause).epoch = s.epoch ∧ (s.closeBatch i id es cause).arb = s.arb ∧
      (s.closeBatch i id es cause).rep = s.rep ∧ (s.closeBatch i id es cause).svc = s.svc ∧ (s.closeBatch i id es cause).pending = s.pending := by
  simp [State.closeBatch, State.queueImmediate_frame]

/-- State.openNew changes windows, store alone. -/
theorem State.openNew_frame (i : WIdx) (s : State) :
    (s.openNew i).pins = s.pins ∧ (s.openNew i).upd = s.upd ∧ (s.openNew i).cyc = s.cyc ∧
      (s.openNew i).epoch = s.epoch ∧ (s.openNew i).engine = s.engine ∧ (s.openNew i).arb = s.arb ∧
      (s.openNew i).rep = s.rep ∧ (s.openNew i).svc = s.svc ∧ (s.openNew i).pending = s.pending := by
  simp [State.openNew]

/-- State.ensureOpen changes windows, store alone. -/
theorem State.ensureOpen_frame (i : WIdx) (s : State) :
    (s.ensureOpen i).pins = s.pins ∧ (s.ensureOpen i).upd = s.upd ∧ (s.ensureOpen i).cyc = s.cyc ∧
      (s.ensureOpen i).epoch = s.epoch ∧ (s.ensureOpen i).engine = s.engine ∧ (s.ensureOpen i).arb = s.arb ∧
      (s.ensureOpen i).rep = s.rep ∧ (s.ensureOpen i).svc = s.svc ∧ (s.ensureOpen i).pending = s.pending := by
  unfold State.ensureOpen
  (repeat' split) <;> simp [State.openNew_frame]

/-- State.spoil changes windows, rep alone. -/
theorem State.spoil_frame (i : WIdx) (id : Half) (cause : SpoilCause) (s : State) :
    (s.spoil i id cause).pins = s.pins ∧ (s.spoil i id cause).store = s.store ∧ (s.spoil i id cause).upd = s.upd ∧
      (s.spoil i id cause).cyc = s.cyc ∧ (s.spoil i id cause).epoch = s.epoch ∧ (s.spoil i id cause).engine = s.engine ∧
      (s.spoil i id cause).arb = s.arb ∧ (s.spoil i id cause).svc = s.svc ∧ (s.spoil i id cause).pending = s.pending := by
  simp [State.spoil, State.countSpoiled]

/-- State.discardOpen changes windows, rep alone. -/
theorem State.discardOpen_frame (i : WIdx) (cause : DiscardCause) (s : State) :
    (s.discardOpen i cause).pins = s.pins ∧ (s.discardOpen i cause).store = s.store ∧ (s.discardOpen i cause).upd = s.upd ∧
      (s.discardOpen i cause).cyc = s.cyc ∧ (s.discardOpen i cause).epoch = s.epoch ∧ (s.discardOpen i cause).engine = s.engine ∧
      (s.discardOpen i cause).arb = s.arb ∧ (s.discardOpen i cause).svc = s.svc ∧ (s.discardOpen i cause).pending = s.pending := by
  unfold State.discardOpen
  (repeat' split) <;> simp

/-- State.discardQueued changes windows, engine, rep alone. -/
theorem State.discardQueued_frame (i : WIdx) (cause : DiscardCause) (s : State) :
    (s.discardQueued i cause).pins = s.pins ∧ (s.discardQueued i cause).store = s.store ∧ (s.discardQueued i cause).upd = s.upd ∧
      (s.discardQueued i cause).cyc = s.cyc ∧ (s.discardQueued i cause).epoch = s.epoch ∧ (s.discardQueued i cause).arb = s.arb ∧
      (s.discardQueued i cause).svc = s.svc ∧ (s.discardQueued i cause).pending = s.pending := by
  unfold State.discardQueued
  (repeat' split) <;> simp

/-- State.leaveAtWork changes windows alone. -/
theorem State.leaveAtWork_frame (i : WIdx) (s : State) :
    (s.leaveAtWork i).pins = s.pins ∧ (s.leaveAtWork i).store = s.store ∧ (s.leaveAtWork i).upd = s.upd ∧
      (s.leaveAtWork i).cyc = s.cyc ∧ (s.leaveAtWork i).epoch = s.epoch ∧ (s.leaveAtWork i).engine = s.engine ∧
      (s.leaveAtWork i).arb = s.arb ∧ (s.leaveAtWork i).rep = s.rep ∧ (s.leaveAtWork i).svc = s.svc ∧
      (s.leaveAtWork i).pending = s.pending := by
  simp [State.leaveAtWork]

/-- State.holdCycleRead changes cyc, arb alone. -/
theorem State.holdCycleRead_frame (i : WIdx) (s : State) :
    (s.holdCycleRead i).pins = s.pins ∧ (s.holdCycleRead i).windows = s.windows ∧ (s.holdCycleRead i).store = s.store ∧
      (s.holdCycleRead i).upd = s.upd ∧ (s.holdCycleRead i).epoch = s.epoch ∧ (s.holdCycleRead i).engine = s.engine ∧
      (s.holdCycleRead i).rep = s.rep ∧ (s.holdCycleRead i).svc = s.svc ∧ (s.holdCycleRead i).pending = s.pending := by
  unfold State.holdCycleRead
  (repeat' split) <;> simp

/-- State.releaseCycleRead changes cyc, arb alone. -/
theorem State.releaseCycleRead_frame (i : WIdx) (s : State) :
    (s.releaseCycleRead i).pins = s.pins ∧ (s.releaseCycleRead i).windows = s.windows ∧ (s.releaseCycleRead i).store = s.store ∧
      (s.releaseCycleRead i).upd = s.upd ∧ (s.releaseCycleRead i).epoch = s.epoch ∧ (s.releaseCycleRead i).engine = s.engine ∧
      (s.releaseCycleRead i).rep = s.rep ∧ (s.releaseCycleRead i).svc = s.svc ∧ (s.releaseCycleRead i).pending = s.pending := by
  unfold State.releaseCycleRead
  (repeat' split) <;> simp

/-- State.faultCycleRead changes cyc alone. -/
theorem State.faultCycleRead_frame (i : WIdx) (s : State) :
    (s.faultCycleRead i).pins = s.pins ∧ (s.faultCycleRead i).windows = s.windows ∧ (s.faultCycleRead i).store = s.store ∧
      (s.faultCycleRead i).upd = s.upd ∧ (s.faultCycleRead i).epoch = s.epoch ∧ (s.faultCycleRead i).engine = s.engine ∧
      (s.faultCycleRead i).arb = s.arb ∧ (s.faultCycleRead i).rep = s.rep ∧ (s.faultCycleRead i).svc = s.svc ∧
      (s.faultCycleRead i).pending = s.pending := by
  unfold State.faultCycleRead
  (repeat' split) <;> simp

/-- State.epochClose changes windows, rep alone. -/
theorem State.epochClose_frame (st : Stamp) (i : WIdx) (s : State) :
    (s.epochClose st i).pins = s.pins ∧ (s.epochClose st i).store = s.store ∧ (s.epochClose st i).upd = s.upd ∧
      (s.epochClose st i).cyc = s.cyc ∧ (s.epochClose st i).epoch = s.epoch ∧ (s.epochClose st i).engine = s.engine ∧
      (s.epochClose st i).arb = s.arb ∧ (s.epochClose st i).svc = s.svc ∧ (s.epochClose st i).pending = s.pending := by
  unfold State.epochClose
  (repeat' split) <;> simp

/-- State.epochQueue changes windows, engine, rep alone. -/
theorem State.epochQueue_frame (st : Stamp) (i : WIdx) (s : State) :
    (s.epochQueue st i).pins = s.pins ∧ (s.epochQueue st i).store = s.store ∧ (s.epochQueue st i).upd = s.upd ∧
      (s.epochQueue st i).cyc = s.cyc ∧ (s.epochQueue st i).epoch = s.epoch ∧ (s.epochQueue st i).arb = s.arb ∧
      (s.epochQueue st i).svc = s.svc ∧ (s.epochQueue st i).pending = s.pending := by
  unfold State.epochQueue State.queueFrom
  split
  · rename_i h
    split at h
    · injection h with h; subst h; simp
    · cases h
  · split <;> simp [State.countOverrun]

/-- State.reply changes svc alone. -/
theorem State.reply_frame (r : Result) (q : List Byte) (s : State) :
    (s.reply r q).pins = s.pins ∧ (s.reply r q).windows = s.windows ∧ (s.reply r q).store = s.store ∧
      (s.reply r q).upd = s.upd ∧ (s.reply r q).cyc = s.cyc ∧ (s.reply r q).epoch = s.epoch ∧
      (s.reply r q).engine = s.engine ∧ (s.reply r q).arb = s.arb ∧ (s.reply r q).rep = s.rep ∧
      (s.reply r q).pending = s.pending := by
  unfold State.reply
  (repeat' split) <;> simp

/-- Epoch delivery to one window changes that window, the commit queue and the Report Unit alone. -/
theorem State.deliverTo_frame (st : Stamp) (s : State) (i : WIdx) :
    (State.deliverTo st s i).pins = s.pins ∧ (State.deliverTo st s i).store = s.store ∧
      (State.deliverTo st s i).upd = s.upd ∧ (State.deliverTo st s i).cyc = s.cyc ∧
      (State.deliverTo st s i).epoch = s.epoch ∧ (State.deliverTo st s i).arb = s.arb ∧
      (State.deliverTo st s i).svc = s.svc ∧ (State.deliverTo st s i).pending = s.pending := by
  unfold State.deliverTo
  split
  · split
    · split <;> simp [State.epochQueue_frame, State.epochClose_frame]
    · simp
  · simp

/-- A fold of deliveries keeps what each of them keeps. -/
theorem State.foldl_deliverTo_frame (st : Stamp) (l : List WIdx) (s : State) :
    (l.foldl (State.deliverTo st) s).pins = s.pins ∧ (l.foldl (State.deliverTo st) s).store = s.store ∧
      (l.foldl (State.deliverTo st) s).upd = s.upd ∧ (l.foldl (State.deliverTo st) s).cyc = s.cyc ∧
      (l.foldl (State.deliverTo st) s).epoch = s.epoch ∧ (l.foldl (State.deliverTo st) s).arb = s.arb ∧
      (l.foldl (State.deliverTo st) s).svc = s.svc ∧ (l.foldl (State.deliverTo st) s).pending = s.pending := by
  induction l generalizing s with
  | nil => simp
  | cons i l ih => simp [ih, State.deliverTo_frame]

/-- Epoch delivery changes windows, the commit queue and the Report Unit alone. -/
theorem State.deliver_frame (st : Stamp) (s : State) :
    (State.deliver st s).pins = s.pins ∧ (State.deliver st s).store = s.store ∧ (State.deliver st s).upd = s.upd ∧
      (State.deliver st s).cyc = s.cyc ∧ (State.deliver st s).epoch = s.epoch ∧ (State.deliver st s).arb = s.arb ∧
      (State.deliver st s).svc = s.svc ∧ (State.deliver st s).pending = s.pending :=
  State.foldl_deliverTo_frame st allWindows s

/-- A record changes the queue, the numbering, the lost count and the idle timer alone. -/
theorem ReportUnit.take_frame (r : ReportUnit) (b : RecordBody) :
    (r.take b).time = r.time ∧ (r.take b).watermark = r.watermark ∧ (r.take b).idleTime = r.idleTime ∧
      (r.take b).attn = r.attn := by
  unfold ReportUnit.take; split <;> simp

/-- The queue that a held write's reconsideration leaves: the write's own state and its window's batches change, and nothing of the
other ports, the epochs, the slot or the arbiter. -/
theorem State.stageWrite_frame (x : StagedWrite) (timer : Option HoldTimer) (s : State) :
    (s.stageWrite x timer).pins = s.pins ∧ (s.stageWrite x timer).cyc = s.cyc ∧ (s.stageWrite x timer).epoch = s.epoch ∧
      (s.stageWrite x timer).arb = s.arb ∧ (s.stageWrite x timer).svc = s.svc ∧
      (s.stageWrite x timer).pending = s.pending := by
  have ha : ∀ (e : List Entry) (t : State), (t.acceptWrite x e).pins = t.pins ∧ (t.acceptWrite x e).cyc = t.cyc ∧
      (t.acceptWrite x e).epoch = t.epoch ∧ (t.acceptWrite x e).arb = t.arb ∧ (t.acceptWrite x e).svc = t.svc ∧
      (t.acceptWrite x e).pending = t.pending := by
    intro e t
    cases hc : x.closing <;> by_cases ht : x.tap = .off <;>
      simp [State.acceptWrite, hc, ht, State.closeBatch_frame]
  cases hv : verdict (s.ensureOpen x.window) timer.isSome x <;>
    simp [State.stageWrite, hv, ha, State.ensureOpen_frame, State.spoil_frame]

/-- Taking a transaction of the update port reaches neither the lines, nor the cycle port, the epochs, the slot and the queue of
commands. -/
theorem State.takeUpdate_frame (r : BusRequest) (s : State) :
    (s.takeUpdate r).pins = s.pins ∧ (s.takeUpdate r).cyc = s.cyc ∧ (s.takeUpdate r).epoch = s.epoch ∧
      (s.takeUpdate r).svc = s.svc ∧ (s.takeUpdate r).pending = s.pending := by
  have hf : ∀ (d : Decode) (i : WIdx) (t : State), (t.forwardRead r d i).pins = t.pins ∧ (t.forwardRead r d i).cyc = t.cyc ∧
      (t.forwardRead r d i).epoch = t.epoch ∧ (t.forwardRead r d i).svc = t.svc ∧
      (t.forwardRead r d i).pending = t.pending := by
    intro d i t
    simp only [State.forwardRead]
    split <;> simp
  unfold State.takeUpdate
  simp only []
  split
  · unfold State.dispatchUpdate
    (repeat' split) <;>
      simp [State.passUpdate, State.refuseUpdate, State.deny, State.countDenied, hf, State.stageWrite_frame]
  · simp [State.misalignedUpdate]

/-- Taking a transaction of the cycle port reaches neither the lines, nor the update port, the store, the epochs, the engine, the slot
and the queue of commands. -/
theorem State.takeCycle_frame (r : BusRequest) (s : State) :
    (s.takeCycle r).pins = s.pins ∧ (s.takeCycle r).store = s.store ∧ (s.takeCycle r).upd = s.upd ∧
      (s.takeCycle r).epoch = s.epoch ∧ (s.takeCycle r).engine = s.engine ∧ (s.takeCycle r).svc = s.svc ∧
      (s.takeCycle r).pending = s.pending := by
  have hh : ∀ (d : Decode) (i : WIdx) (t : State), (t.readHeldWindow r d i).pins = t.pins ∧
      (t.readHeldWindow r d i).store = t.store ∧ (t.readHeldWindow r d i).upd = t.upd ∧
      (t.readHeldWindow r d i).epoch = t.epoch ∧ (t.readHeldWindow r d i).engine = t.engine ∧
      (t.readHeldWindow r d i).svc = t.svc ∧ (t.readHeldWindow r d i).pending = t.pending := by
    intro d i t
    unfold State.readHeldWindow
    split <;> simp
  unfold State.takeCycle
  simp only []
  split
  · unfold State.dispatchCycle
    (repeat' split) <;> simp [State.refuseCycle, State.deny, State.countDenied, hh]
  · simp [State.misalignedCycle]

/-- Taking waiting requests of the update port keeps what taking each of them keeps. -/
theorem State.takeUpdates_frame (l : List BusRequest) (s : State) :
    (State.takeUpdates l s).pins = s.pins ∧ (State.takeUpdates l s).cyc = s.cyc ∧ (State.takeUpdates l s).epoch = s.epoch ∧
      (State.takeUpdates l s).svc = s.svc ∧ (State.takeUpdates l s).pending = s.pending := by
  induction l generalizing s with
  | nil => simp [State.takeUpdates]
  | cons r l ih =>
    unfold State.takeUpdates
    split
    · simp [ih, State.takeUpdate_frame]
    · simp

/-- Taking waiting requests of the cycle port keeps what taking each of them keeps. -/
theorem State.takeCycles_frame (l : List BusRequest) (s : State) :
    (State.takeCycles l s).pins = s.pins ∧ (State.takeCycles l s).store = s.store ∧ (State.takeCycles l s).upd = s.upd ∧
      (State.takeCycles l s).epoch = s.epoch ∧ (State.takeCycles l s).engine = s.engine ∧
      (State.takeCycles l s).svc = s.svc ∧ (State.takeCycles l s).pending = s.pending := by
  induction l generalizing s with
  | nil => simp [State.takeCycles]
  | cons r l ih =>
    unfold State.takeCycles
    split
    · simp [ih, State.takeCycle_frame]
    · simp

/-- The reconsideration and the completion of a full reset keep the lines and the queue of commands. -/
theorem State.settleWork_frame (s : State) : s.settleWork.pins = s.pins ∧ s.settleWork.pending = s.pending := by
  have hr : s.reconsider.pins = s.pins ∧ s.reconsider.pending = s.pending := by
    unfold State.reconsider
    split
    · exact ⟨(State.stageWrite_frame _ _ _).1, (State.stageWrite_frame _ _ _).2.2.2.2.2⟩
    · exact ⟨rfl, rfl⟩
  have hc : ∀ (b : Bool) (t : State), (t.completeReset b).pins = t.pins ∧ (t.completeReset b).pending = t.pending := by
    intro b t
    simp [State.completeReset, State.reply_frame, State.faultHeld_frame]
  unfold State.settleWork
  simp only []
  split <;> split <;> simp [hr, hc]

/-- Settling keeps the lines and the queue of commands. -/
theorem State.settle_frame (s : State) : s.settle.pins = s.pins ∧ s.settle.pending = s.pending := by
  simp [State.settle, State.takeWaiting, State.takeUpdates_frame, State.takeCycles_frame, State.settleWork_frame]

end Sys2Proof.Machine
end

