-- ==== Sys2Proof/WellFormed.lean ====
section
/-! DEFINITION. Which commands have operands that a sender of the spec can form. Codes out of range are well formed: the device
answers them BAD_ARGUMENT. -/

namespace Sys2Proof

/-- A complete request frame, with its frame kind REQUEST (C1H), a payload length of at most 60, and exactly the bytes that
length calls for (R160, R182). -/
def completeFrame (frame : List Byte) : Bool :=
  match frame with
  | kind :: _ :: _ :: len :: rest =>
    kind == 0xC1#8 && decide (len.toNat ≤ 60) && rest.length == len.toNat + 1
  | _ => false

/-- The operands of a command are ones a sender can form. -/
def Instr.wellFormed : Instr → Bool
  | .requestFrameDecided frame => completeFrame frame
  | .ssnRises _ partialBits => decide (partialBits.length < 8)
  | .powerOnReset | .resetnDeasserted | .urstnAsserted | .urstnDeasserted | .crstnAsserted | .crstnDeasserted
  | .updateTransactionTaken _ | .heldWriteReconsidered | .writeHoldExpired | .cycleTransactionTaken _
  | .qualifyStart _ | .pulseDropped _ | .pulseAccepted _ | .periodEnd | .commitStart | .grant | .memoryAnswer _
  | .accessTimeout | .lateAnswer _ | .fullResetComplete | .idleTimerRunOut | .linkTransactionStart | .requestDropped
  | .collect | .ident _ | .windowSet _ _ | .windowDrop _ _ | .windowRead _ _ | .windowClearRetry _ _
  | .windowClearAbandon _ _ | .batchClose _ _ | .batchDiscardOpen _ _ | .batchDiscardWaiting _ _
  | .batchDiscardQueued _ _ | .batchList _ _ | .undoRead _ _ | .gateHold _ | .gateOpen _ | .gateRead _
  | .timerSetMode _ _ _ _ _ | .timerSetPeriod _ _ _ _ | .timerSetQualifyA _ _ _ | .timerSetQualifyB _ _
  | .timerSettingsRead _ | .limitsSetWriteHoldLimit _ _ _ _ _ | .limitsSetMemoryAccessTimeout _ _ _ _
  | .limitsSetWatermark _ _ _ | .limitsSetIdleTime _ _ | .limitsRead _ | .countersRead _ | .reportsTake _
  | .memoryProbeMemory _ _ | .memoryProbeUpdate _ _ | .partResetBatches _ | .partResetFull _ => true

end Sys2Proof
end

