-- ==== Sys2Proof/Laws/PerInstr.lean ====
section
/-! SUPPORT. For every command: the request frame that stands for it is a complete one, so the row is a frame the link can carry. -/

namespace Sys2Proof.Laws.RequestFrame

open Sys2Proof.Machine

/-- The frame that stands for a command, if one does, is a complete request frame (R160, R182). -/
def Statement (i : Instr) : Prop := ∀ f, requestOf i = some f → completeFrame f = true

/-- A frame built from a payload of at most 60 bytes is complete. -/
theorem complete_of_payload {tag op : Byte} {p : List Byte} (h : p.length ≤ 60) :
    ∀ f, some (requestFrame tag op p) = some f → completeFrame f = true := by
  intro f hf
  cases hf
  have hl : (num8 p.length).toNat = p.length := by simp [num8]; omega
  simp [requestFrame, frameBytes, completeFrame, hl, h]

theorem powerOnReset : Statement .powerOnReset := nofun

theorem resetnDeasserted : Statement .resetnDeasserted := nofun

theorem urstnAsserted : Statement .urstnAsserted := nofun

theorem urstnDeasserted : Statement .urstnDeasserted := nofun

theorem crstnAsserted : Statement .crstnAsserted := nofun

theorem crstnDeasserted : Statement .crstnDeasserted := nofun

theorem updateTransactionTaken : ∀ x, Statement (.updateTransactionTaken x) := fun _ _ h => nomatch h

theorem heldWriteReconsidered : Statement .heldWriteReconsidered := nofun

theorem writeHoldExpired : Statement .writeHoldExpired := nofun

theorem cycleTransactionTaken : ∀ x, Statement (.cycleTransactionTaken x) := fun _ _ h => nomatch h

theorem qualifyStart : ∀ x, Statement (.qualifyStart x) := fun _ _ h => nomatch h

theorem pulseDropped : ∀ x, Statement (.pulseDropped x) := fun _ _ h => nomatch h

theorem pulseAccepted : ∀ x, Statement (.pulseAccepted x) := fun _ _ h => nomatch h

theorem periodEnd : Statement .periodEnd := nofun

theorem commitStart : Statement .commitStart := nofun

theorem grant : Statement .grant := nofun

theorem memoryAnswer : ∀ x, Statement (.memoryAnswer x) := fun _ _ h => nomatch h

theorem accessTimeout : Statement .accessTimeout := nofun

theorem lateAnswer : ∀ x, Statement (.lateAnswer x) := fun _ _ h => nomatch h

theorem fullResetComplete : Statement .fullResetComplete := nofun

theorem idleTimerRunOut : Statement .idleTimerRunOut := nofun

theorem linkTransactionStart : Statement .linkTransactionStart := nofun

theorem requestFrameDecided : ∀ x, Statement (.requestFrameDecided x) := fun _ _ h => nomatch h

theorem requestDropped : Statement .requestDropped := nofun

theorem collect : Statement .collect := nofun

theorem ssnRises : ∀ x y, Statement (.ssnRises x y) := fun _ _ _ h => nomatch h

theorem ident : ∀ x, Statement (.ident x) := fun _ => complete_of_payload (Nat.le_of_ble_eq_true rfl)

theorem windowSet : ∀ x y, Statement (.windowSet x y) := fun _ _ => complete_of_payload (Nat.le_of_ble_eq_true rfl)

theorem windowDrop : ∀ x y, Statement (.windowDrop x y) := fun _ _ => complete_of_payload (Nat.le_of_ble_eq_true rfl)

theorem windowRead : ∀ x y, Statement (.windowRead x y) := fun _ _ => complete_of_payload (Nat.le_of_ble_eq_true rfl)

theorem windowClearRetry : ∀ x y, Statement (.windowClearRetry x y) := fun _ _ => complete_of_payload (Nat.le_of_ble_eq_true rfl)

theorem windowClearAbandon : ∀ x y, Statement (.windowClearAbandon x y) := fun _ _ => complete_of_payload (Nat.le_of_ble_eq_true rfl)

theorem batchClose : ∀ x y, Statement (.batchClose x y) := fun _ _ => complete_of_payload (Nat.le_of_ble_eq_true rfl)

theorem batchDiscardOpen : ∀ x y, Statement (.batchDiscardOpen x y) := fun _ _ => complete_of_payload (Nat.le_of_ble_eq_true rfl)

theorem batchDiscardWaiting : ∀ x y, Statement (.batchDiscardWaiting x y) := fun _ _ => complete_of_payload (Nat.le_of_ble_eq_true rfl)

theorem batchDiscardQueued : ∀ x y, Statement (.batchDiscardQueued x y) := fun _ _ => complete_of_payload (Nat.le_of_ble_eq_true rfl)

theorem batchList : ∀ x y, Statement (.batchList x y) := fun _ _ => complete_of_payload (Nat.le_of_ble_eq_true rfl)

theorem undoRead : ∀ x y, Statement (.undoRead x y) := fun _ _ => complete_of_payload (Nat.le_of_ble_eq_true rfl)

theorem gateHold : ∀ x, Statement (.gateHold x) := fun _ => complete_of_payload (Nat.le_of_ble_eq_true rfl)

theorem gateOpen : ∀ x, Statement (.gateOpen x) := fun _ => complete_of_payload (Nat.le_of_ble_eq_true rfl)

theorem gateRead : ∀ x, Statement (.gateRead x) := fun _ => complete_of_payload (Nat.le_of_ble_eq_true rfl)

theorem timerSetMode : ∀ x y z u v, Statement (.timerSetMode x y z u v) := fun _ _ _ _ _ => complete_of_payload (Nat.le_of_ble_eq_true rfl)

theorem timerSetPeriod : ∀ x y z u, Statement (.timerSetPeriod x y z u) := fun _ _ _ _ => complete_of_payload (Nat.le_of_ble_eq_true rfl)

theorem timerSetQualifyA : ∀ x y z, Statement (.timerSetQualifyA x y z) := fun _ _ _ => complete_of_payload (Nat.le_of_ble_eq_true rfl)

theorem timerSetQualifyB : ∀ x y, Statement (.timerSetQualifyB x y) := fun _ _ => complete_of_payload (Nat.le_of_ble_eq_true rfl)

theorem timerSettingsRead : ∀ x, Statement (.timerSettingsRead x) := fun _ => complete_of_payload (Nat.le_of_ble_eq_true rfl)

theorem limitsSetWriteHoldLimit : ∀ x y z u v, Statement (.limitsSetWriteHoldLimit x y z u v) :=
  fun _ _ _ _ _ => complete_of_payload (Nat.le_of_ble_eq_true rfl)

theorem limitsSetMemoryAccessTimeout : ∀ x y z u, Statement (.limitsSetMemoryAccessTimeout x y z u) :=
  fun _ _ _ _ => complete_of_payload (Nat.le_of_ble_eq_true rfl)

theorem limitsSetWatermark : ∀ x y z, Statement (.limitsSetWatermark x y z) := fun _ _ _ => complete_of_payload (Nat.le_of_ble_eq_true rfl)

theorem limitsSetIdleTime : ∀ x y, Statement (.limitsSetIdleTime x y) := fun _ _ => complete_of_payload (Nat.le_of_ble_eq_true rfl)

theorem limitsRead : ∀ x, Statement (.limitsRead x) := fun _ => complete_of_payload (Nat.le_of_ble_eq_true rfl)

theorem countersRead : ∀ x, Statement (.countersRead x) := fun _ => complete_of_payload (Nat.le_of_ble_eq_true rfl)

theorem reportsTake : ∀ x, Statement (.reportsTake x) := fun _ => complete_of_payload (Nat.le_of_ble_eq_true rfl)

theorem memoryProbeMemory : ∀ x y, Statement (.memoryProbeMemory x y) := fun _ _ => complete_of_payload (Nat.le_of_ble_eq_true rfl)

theorem memoryProbeUpdate : ∀ x y, Statement (.memoryProbeUpdate x y) := fun _ _ => complete_of_payload (Nat.le_of_ble_eq_true rfl)

theorem partResetBatches : ∀ x, Statement (.partResetBatches x) := fun _ => complete_of_payload (Nat.le_of_ble_eq_true rfl)

theorem partResetFull : ∀ x, Statement (.partResetFull x) := fun _ => complete_of_payload (Nat.le_of_ble_eq_true rfl)

end Sys2Proof.Laws.RequestFrame
end

