-- ==== Sys2Proof/Tests/Slice0.lean ====
section
/-! SUPPORT. Tests: terms that the well-formedness check refuses, small steps with values taken from the spec's rules, and, for each
statement that has hypotheses, a state and operands that meet all of them, clause by clause. -/

namespace Sys2Proof.Tests

open Sys2Proof.Machine

/-! ### Small states -/

/-- Four staged bytes. -/
def lanes : Quad (Option Byte) := ⟨some 1, some 2, some 3, some 4⟩

/-- The first entries of the window of the tests, one for each word. -/
def entries (n : Nat) : List Entry := (List.range n).map fun k => ⟨BitVec.ofNat 32 (0x1000 + 4 * k), lanes⟩

/-- A window that is queued and closed by timer epochs, with two entries to a batch. -/
def fields : HeldFields := ⟨.epoch .timer, .onEpoch, none, 2⟩

/-- The same with one entry to a batch. -/
def smallFields : HeldFields := ⟨.epoch .timer, .onEpoch, none, 1⟩

/-- A window that is queued at once and closed by a write to one word. -/
def closingOn (a : Word) : HeldFields := ⟨.immediate, .onClosingWrite, some a, 2⟩

/-- The HELD window of the tests, 1000H to 103FH. -/
def descriptor (h : HeldFields) (upd cyc : Access) : Descriptor := ⟨0x1000, 0x40, .held h, upd, cyc, .allWrites, true⟩

/-- A HELD window at the last place. -/
def heldAt (h : HeldFields) (b : Option OpenBatch) (ws : List WaitBatch) : State :=
  State.reset.setWin 15 ⟨.active (descriptor h .readWrite .readOnly), .zero, b, ws⟩

/-- A HELD window with the given access fields. -/
def heldFor (upd cyc : Access) : State := State.reset.setWin 15 ⟨.active (descriptor fields upd cyc), .zero, none, []⟩

/-- The PASS window of the tests, 2000H to 203FH. -/
def passDescriptor (upd : Access) : Descriptor := ⟨0x2000, 0x40, .pass, upd, .readOnly, .allWrites, false⟩

/-- A PASS window at place 1. -/
def passAt (upd : Access) : State := State.reset.setWin 1 ⟨.active (passDescriptor upd), .zero, none, []⟩

/-- A batch in a waiting list. -/
def batch (st : BatchState) (n : Nat) : WaitBatch := ⟨7, entries n, st, .epoch, none⟩

/-- A waiting list of CLOSED batches. -/
def fill (n : Nat) : List WaitBatch := List.replicate n (batch .closed 1)

/-- A state with another window's CLOSED batches bringing the entries in use to a number from 193 to 256, if there are fewer. -/
def fillTo (n : Nat) (s : State) : State :=
  s.setWin 0 ⟨.active ⟨0x8000, 0x1000, .held ⟨.epoch .lineA, .onClosingWrite, none, 64⟩, .readWrite, .none, .off, false⟩, .zero, none,
    [batch .closed 64, batch .closed 64, batch .closed 64, batch .closed (n - 192 - s.inUse)]⟩

/-- A state with the store full by open batches alone. -/
def fullByOpen (s : State) : State :=
  (List.finRange 4).foldl (fun s i => s.setWin (i.castLE (by decide))
    ⟨.active ⟨BitVec.ofNat 32 (0x8000 + 0x1000 * i.val), 0x1000, .held ⟨.epoch .lineA, .onClosingWrite, none, 64⟩, .readWrite, .none, .off,
      false⟩, .zero, some (.gathering 1 (entries 64)), []⟩) s

/-- A state with a write hold limit. -/
def holdLimit (n : Half) (s : State) : State := { s with store := { s.store with writeHoldLimit := n } }

/-- A write to the second word of the window. -/
def heldWrite (h : HeldFields) : StagedWrite := ⟨0x1004, .one 7, 15, .allWrites, h⟩

/-- A state in which that write is held, 5 µs ago. -/
def holding (h : HeldFields) (f : WaitsFor) (s : State) : State :=
  { s with upd := { s.upd with state := .held (heldWrite h) f ⟨2000, 5⟩ } }

/-- A state with RESETN asserted. -/
def inReset : State := { State.reset with pins := { State.reset.pins with resetn := true } }

/-- A state with the memory port BUSY for a requester. -/
def busyFor (who : Requester) (s : State) : State :=
  { s with arb := { s.arb with port := some ⟨.read 0x1000 .four, who, 50, 0⟩ } }

/-- An undo record. -/
def undoRecord (a : Word) : UndoRecord := ⟨a, ⟨0, 0, 0, 0⟩, ⟨true, true, true, true⟩⟩

/-- The undo log of a commit of the first entries. -/
def undoLog (n : Nat) : List UndoRecord := (List.range n).map fun k => undoRecord (BitVec.ofNat 32 (0x1000 + 4 * k))

/-- The engine in the commit of a batch of two entries. -/
def commitAt (k : Nat) (step : CommitStep) : State :=
  busyFor .ce { heldAt fields none [batch .committing 2] with
    engine := ⟨.committing, .opened, [], some ⟨15, 7, k⟩, some ⟨k, step⟩, undoLog (k + (if step = .writeNew then 1 else 0)), none, 0, false⟩ }

/-- The fault context of the tests. -/
def context : FaultContext := ⟨15, 7, 0x1004, .readOld, 0⟩

/-- The engine in a rollback, or in a resumed rollback. -/
def rollbackOf (n : Nat) (inHand : Bool) (ws : List WaitBatch) : State :=
  busyFor .ce { heldAt fields none (if inHand then batch .rollingBack 2 :: ws else ws) with
    engine := ⟨.rollingBack, .opened, [], if inHand then some ⟨15, 7, 1⟩ else none, none, undoLog n, some context, 0, false⟩
    svc := ⟨if inHand then .idle else .working 1 0x13 [0x0F, 0x01], 0, none, none⟩ }

/-- A HALTED engine with its FAULTED window. -/
def haltedEngine : State :=
  { State.reset.setWin 15 ⟨.faulted (descriptor fields .readWrite .readOnly), .zero, none, []⟩ with
    engine := ⟨.halted, .opened, [], none, none, undoLog 1, some context, 0, false⟩ }

/-- A commit that can start. -/
def queuedCommit : State :=
  { heldAt fields none [batch .queued 2] with engine := { State.reset.engine with queue := [(15, 7)] } }

/-- A pending full reset that can complete. -/
def resetOwed : State :=
  { State.reset with
    engine := { State.reset.engine with fullReset := true }
    svc := { State.reset.svc with slot := .working 1 0x7F [0x02] } }

/-- A cycle read of the HELD window. -/
def heldRead : CycleTxn := ⟨.read 0x1000 .four, .held 15 .readWrite .readOnly .allWrites fields⟩

/-- A state with the Cycle Port Unit in a state. -/
def cycleIn (c : CycleState) (s : State) : State := { s with cyc := { s.cyc with state := c } }

/-- A cycle read on the memory port. -/
def readAtMemory : State := busyFor .cp (cycleIn (.atMemory heldRead) State.reset)

/-- Two requests waiting at the update port. -/
def twoWait : State := { State.reset with upd := { State.reset.upd with waiting := [.read 0 .four, .read 4 .four] } }

/-- Two requests waiting at the cycle port. -/
def twoWaitAtCycle : State := { State.reset with cyc := { State.reset.cyc with waiting := [.read 0 .four, .read 4 .four] } }

/-- Two writes to one word of the HELD window waiting at the update port. -/
def twoWaitAtHeld : State :=
  { heldAt fields none [] with upd := { State.reset.upd with waiting := [.write 0x1000 (.one 7), .write 0x1000 (.one 9)] } }

/-- An update read outside every window. -/
def plainRead : UpdateTxn := ⟨.read 0x1000 .four, .unmapped, [none, none, none, none]⟩

/-- An update write outside every window. -/
def plainWrite : UpdateTxn := ⟨.write 0x1000 (.one 7), .unmapped, [none]⟩

/-- The timer in a mode, 1000 µs to its period's end. -/
def timerIn (m : TimerMode) : State := { State.reset with epoch := { State.reset.epoch with mode := m } }

/-- A probe on the memory port. -/
def probing : State :=
  busyFor .sl { State.reset with svc := ⟨.working 1 0x70 [], 0, none, some ⟨0, .memory, .unmapped, ⟨none, none, none, none⟩⟩⟩ }

/-- A report queue of the given length. -/
def reports (n : Nat) : State :=
  { State.reset with rep := { State.reset.rep with
      queue := (List.range n).map fun k => ⟨BitVec.ofNat 16 k, 0, .flywheel 1⟩, nextSeq := BitVec.ofNat 16 n } }

/-- A link transaction in progress. -/
def linked (slot : Slot) (status : Byte) (p : LinkPhase) : State :=
  { State.reset with
    pins := { State.reset.pins with ssn := true }
    svc := ⟨slot, 0, some ⟨status, p⟩, none⟩ }

/-- WINDOW_SET arguments of the HELD window of the tests, with its size in units of 64 bytes. -/
def windowArgs (index : Byte) (base : Word) (units : Word) : WindowSetArgs :=
  ⟨index, base, units * 64, 1, 2, 1, 2, 1, 3, 1, 0, 0, 2⟩

/-- The state that an outcome gives, or the one before. -/
def after (c : Instr) (s : State) : State :=
  match exec c s with
  | .next t => t
  | .fault _ => s
  | .refused _ => s

/-! ### Terms that the well-formedness check refuses -/

theorem test_wellFormed_refuses_another_frame_kind :
    (Instr.requestFrameDecided [0xC2, 0x01, 0x01, 0x00, 0x3D]).wellFormed = false := by decide

theorem test_wellFormed_refuses_a_payload_of_61_bytes :
    (Instr.requestFrameDecided ([0xC1, 0x01, 0x01, 61] ++ List.replicate 62 0)).wellFormed = false := by decide

theorem test_wellFormed_accepts_a_payload_of_60_bytes :
    (Instr.requestFrameDecided ([0xC1, 0x01, 0x01, 60] ++ List.replicate 61 0)).wellFormed = true := by decide

theorem test_wellFormed_refuses_a_frame_of_another_length :
    (Instr.requestFrameDecided [0xC1, 0x01, 0x01, 0x01, 0x00]).wellFormed = false := by decide

theorem test_wellFormed_refuses_a_frame_of_three_bytes :
    (Instr.requestFrameDecided [0xC1, 0x01, 0x01]).wellFormed = false := by decide

theorem test_wellFormed_refuses_eight_partial_bits :
    (Instr.ssnRises [] (List.replicate 8 true)).wellFormed = false := by decide

/-! ### States and operands that meet the hypotheses of the statements -/

/-- The device law holds in the middle of a commit. -/
theorem deviceLaw_commitAt : (commitAt 1 .writeNew).deviceLaw := by
  refine ⟨by decide, by decide, by decide, by decide, by decide, ⟨⟨by decide, fun _ h => absurd h List.not_mem_nil, by decide⟩, nofun, fun _ => ?_, nofun, nofun⟩, by decide, by decide⟩
  exact ⟨by decide, rfl, _, rfl, by decide, _, rfl, _, rfl, by decide, rfl, by decide⟩

/-- The device law holds under a HALTED engine. -/
theorem deviceLaw_haltedEngine : haltedEngine.deviceLaw := by
  refine ⟨by decide, by decide, by decide, by decide, by decide, ⟨⟨by decide, fun _ h => absurd h List.not_mem_nil, by decide⟩, nofun, nofun, nofun, fun _ => ?_⟩, by decide, by decide⟩
  exact ⟨rfl, rfl, by decide, by decide, by decide, _, rfl, by decide, by decide, by decide⟩


theorem test_hypotheses_EmptyQueueRunsTheDevice :
    (∃ (s : State), s.pins.resetn = true) ∧
    (∃ (s : State), s.pending = [] ∧ s.pins.resetn = true) ∧
    (let met (s : State) : Prop := s.pending = [] ∧ s.pins.resetn = false ∧ s.owes = true
     met resetOwed ∧
      met twoWait ∧
      met (holding fields .stagingEntry (fillTo 255 (heldAt fields none [])))) ∧
    (let met (s : State) : Prop := s.pending = [] ∧ s.settled
     met State.reset ∧
      met queuedCommit) :=
  ⟨⟨inReset, by decide⟩,
   ⟨inReset, by decide⟩,
   ⟨by decide, by decide, by decide⟩,
   ⟨by decide, by decide⟩⟩

theorem test_hypotheses_OwedWorkComesFirst :
    (∃ (s : State), s.pins.resetn = false) ∧
    (∃ (c : Instr) (s : State), s.pins.resetn = false ∧ c ≠ .resetnDeasserted ∧ c ≠ .heldWriteReconsidered ∧ c ≠
        .fullResetComplete ∧ (∀ ans, c ≠ .lateAnswer ans)) ∧
    (∃ (s : State), s.owes = false) ∧
    (∃ (s : State), s.pins.resetn = false ∧ s.reconsiderDue = true) ∧
    (∃ (s : State), s.pins.resetn = false ∧ s.reconsiderDue = false ∧ s.fullResetDue = true) ∧
    (∃ (r : BusRequest) (rest : List BusRequest) (s : State), s.reconsiderDue = false ∧ s.fullResetDue = false ∧
        s.updateTakeDue = true ∧ s.upd.waiting = r :: rest) ∧
    (∃ (r : BusRequest) (rest : List BusRequest) (s : State), s.reconsiderDue = false ∧ s.fullResetDue = false ∧
        s.updateTakeDue = false ∧ s.cycleTakeDue = true ∧ s.cyc.waiting = r :: rest) ∧
    (∃ (s : State), s.takesUpdates) ∧
    (∃ (s : State), s.takesCycles) :=
  ⟨⟨resetOwed, by decide⟩,
   ⟨.grant, resetOwed, ⟨rfl, nofun, nofun, nofun, nofun⟩⟩,
   ⟨State.reset, by decide⟩,
   ⟨holding fields .stagingEntry (fillTo 255 (heldAt fields none [])), by decide⟩,
   ⟨resetOwed, by decide⟩,
   ⟨.read 0 .four, [.read 4 .four], twoWait, by decide⟩,
   ⟨.read 0 .four, [.read 4 .four], twoWaitAtCycle, by decide⟩,
   ⟨State.reset, by decide⟩,
   ⟨State.reset, by decide⟩⟩

theorem test_hypotheses_ResetLineAndTheOtherLines :
    (∃ (s : State), s.pins.resetn = true) ∧
    (∃ (s : State), s.pins.resetn = false) ∧
    (∃ (s : State), s.pins.resetn = true) ∧
    (∃ (s : State), s.pins.resetn = true) ∧
    (∃ (s : State), s.pins.resetn = true) ∧
    (∃ (s : State) (c : Instr), s.pins.resetn = true ∧ (requestOf c).isSome = true) ∧
    (∃ (s : State) (c : Instr), s.pins.resetn = true ∧ c ∈ [Instr.heldWriteReconsidered, .writeHoldExpired, .pulseAccepted .a,
        .pulseAccepted .b, .periodEnd, .commitStart, .grant, .accessTimeout, .fullResetComplete, .idleTimerRunOut,
        .requestDropped, .collect]) ∧
    (∃ (s : State), s.pins.resetn = true) :=
  ⟨⟨inReset, by decide⟩,
   ⟨State.reset, by decide⟩,
   ⟨inReset, by decide⟩,
   ⟨inReset, by decide⟩,
   ⟨inReset, by decide⟩,
   ⟨inReset, .ident 0, by decide⟩,
   ⟨inReset, .collect, by decide⟩,
   ⟨inReset, by decide⟩⟩

theorem test_hypotheses_PortSideResets :
    (∃ (s : State), s.settled ∧ s.pins.urstn = false) ∧
    (∃ (s : State), s.settled ∧ s.pins.urstn = true) ∧
    (∃ (s : State), s.settled) ∧
    (∃ (s : State), s.settled ∧ s.pins.crstn = false) ∧
    (∃ (s : State), s.settled ∧ s.pins.crstn = true) ∧
    (∃ (s : State), s.settled) :=
  ⟨⟨heldAt fields (some (.gathering 1 (entries 2))) [], by decide⟩,
   ⟨{ State.reset with pins := { State.reset.pins with urstn := true } }, by decide⟩,
   ⟨{ State.reset with pins := { State.reset.pins with urstn := true } }, by decide⟩,
   ⟨readAtMemory, by decide⟩,
   ⟨{ State.reset with pins := { State.reset.pins with crstn := true } }, by decide⟩,
   ⟨{ State.reset with pins := { State.reset.pins with crstn := true } }, by decide⟩⟩

theorem test_hypotheses_PartResetBatches :
    (∃ (s : State), s.takesCommands) :=
  ⟨heldAt fields (some (.gathering 1 (entries 2))) [batch .closed 2], by decide⟩

theorem test_hypotheses_PartResetFull :
    (let met (s : State) : Prop := s.takesCommands ∧ (s.engine.state = .idle ∨ s.engine.state = .halted)
     met State.reset ∧
      met haltedEngine) ∧
    (∃ (s : State), s.takesCommands ∧ (s.engine.state = .committing ∨ s.engine.state = .rollingBack)) ∧
    (∃ (s : State) (tag code : Byte) (payload : List Byte), s.pins.resetn = false ∧ s.reconsiderDue = false ∧
        s.engine.fullReset = true ∧ (s.engine.state = .idle ∨ s.engine.state = .halted) ∧ s.svc.slot = .working tag code
        payload) ∧
    (∃ (s u : State), s.pins.resetn = false ∧ s.reconsiderDue = true ∧ exec .heldWriteReconsidered s = .next u) ∧
    (let met (s : State) : Prop := s.pins.resetn = false ∧ s.reconsiderDue = false ∧ (s.engine.fullReset = false ∨
        (s.engine.state ≠ .idle ∧ s.engine.state ≠ .halted))
     met State.reset ∧
      met { commitAt 0 .readOld with engine := { (commitAt 0 .readOld).engine with fullReset := true } }) :=
  ⟨⟨by decide, by decide⟩,
   ⟨commitAt 0 .readOld, by decide⟩,
   ⟨resetOwed, 1, 0x7F, [0x02], by decide⟩,
   ⟨holding fields .stagingEntry (fillTo 255 (heldAt fields none [])), _, ⟨by decide, by decide, rfl⟩⟩,
   ⟨by decide, by decide⟩⟩

theorem test_hypotheses_MisalignedUpdateTransaction :
    (let met (r : BusRequest) (s : State) : Prop := s.takesUpdates ∧ (reqAddr r).toNat % sizeBytes (reqSize r) ≠ 0
     met (.read 3 .two) State.reset ∧
      met (.write 0x1002 (.four 1 2 3 4)) State.reset) ∧
    (∃ (r : BusRequest), reqSize r = .one) :=
  ⟨⟨by decide, by decide⟩,
   ⟨.read 3 .one, by decide⟩⟩

theorem test_hypotheses_RefusedUpdateTransaction :
    (let met (r : BusRequest) (i : WIdx) (reason : DenyReason) (ua ca : Access) (tap : Tap) (h : HeldFields) (s : State) :
        Prop := s.takesUpdates ∧ (reqAddr r).toNat % sizeBytes (reqSize r) = 0 ∧ ((s.decodeAddr (reqAddr r) = .pass i ua ca tap
        ∧ ua.permits (reqKind r) = false ∧ reason = .noAccess) ∨ (s.decodeAddr (reqAddr r) = .held i ua ca tap h ∧ ua.permits
        (reqKind r) = false ∧ reason = .noAccess) ∨ (s.decodeAddr (reqAddr r) = .faulted i ∧ reason = .faulted))
     met (.write 0x2000 (.one 1)) 1 .noAccess .readOnly .readOnly .allWrites fields (passAt .readOnly) ∧
      met (.read 0x103F .one) 15 .noAccess .none .readOnly .allWrites fields (heldFor .none .readOnly) ∧
      met (.read 0x1000 .four) 15 .faulted .none .none .off fields haltedEngine) :=
  ⟨by decide, by decide, by decide⟩

theorem test_hypotheses_PlacedUpdateAccess :
    (let met (r : BusRequest) (i : WIdx) (ua ca : Access) (tap : Tap) (d : Decode) (s : State) : Prop := s.takesUpdates ∧
        (reqAddr r).toNat % sizeBytes (reqSize r) = 0 ∧ s.decodeAddr (reqAddr r) = d ∧ (d = .unmapped ∨ (d = .pass i ua ca tap ∧
        ua.permits (reqKind r) = true))
     met (.read 0x2040 .four) 0 .none .none .off .unmapped (passAt .readOnly) ∧
      met (.read 0x203F .one) 1 .readOnly .readOnly .allWrites (.pass 1 .readOnly .readOnly .allWrites) (passAt .readOnly)) ∧
    (let met (a : Word) (size : Size) (i : WIdx) (ua ca : Access) (tap : Tap) (h : HeldFields) (staged : List (Option Byte))
        (s : State) : Prop := s.takesUpdates ∧ a.toNat % sizeBytes size = 0 ∧ s.decodeAddr a = .held i ua ca tap h ∧ ua.permits
        .read = true ∧ readLanes a size ((s.win i).viewWord (wordAddr a)) = staged
     met 0x1000 .four 15 .readWrite .readOnly .allWrites fields [some 1, some 2, some 3, some 4]
          (heldAt fields (some (.gathering 1 (entries 1))) []) ∧
      met 0x1004 .two 15 .readWrite .readOnly .allWrites fields [none, none]
          (heldAt fields (some (.gathering 1 (entries 1))) [])) :=
  ⟨⟨by decide, by decide⟩,
   ⟨by decide, by decide⟩⟩

theorem test_hypotheses_StagedWriteAccepted :
    (let met (a : Word) (d : WriteData) (i : WIdx) (ca : Access) (tap : Tap) (h : HeldFields) (id : Half) (es : List Entry)
        (s : State) : Prop := s.takesStaged a d i ca tap h ∧ h.closing ≠ some (wordAddr a) ∧ s.batchFor i = some (id, es) ∧
        ((es.any fun e => e.addr == wordAddr a) = true ∨ (es.length < h.batchLimit.toNat ∧ s.inUse < 256))
     met 0x1000 (.one 7) 15 .readOnly .allWrites fields 0 [] (heldAt fields none []) ∧
      met 0x1004 (.four 1 2 3 4) 15 .readOnly .allWrites fields 1 (entries 1)
          (heldAt fields (some (.gathering 1 (entries 1))) []) ∧
      met 0x1000 (.two 7 8) 15 .readOnly .allWrites fields 1 (entries 2) (heldAt fields (some (.gathering 1 (entries 2))) []) ∧
      met 0x1004 (.one 7) 15 .readOnly .allWrites fields 1 (entries 1)
          (fillTo 255 (heldAt fields (some (.gathering 1 (entries 1))) []))) :=
  ⟨by decide, by decide, by decide, by decide⟩

theorem test_hypotheses_StagedWriteAtTheBatchLimit :
    (let met (a : Word) (d : WriteData) (i : WIdx) (ca : Access) (tap : Tap) (h : HeldFields) (id : Half) (es : List Entry)
        (s : State) : Prop := s.takesStaged a d i ca tap h ∧ (h.closing = some (wordAddr a) → (s.win i).waiting.length < 4) ∧
        (s.win i).openBatch = some (.gathering id es) ∧ (es.any fun e => e.addr == wordAddr a) = false ∧ h.batchLimit.toNat ≤
        es.length
     met 0x1008 (.one 7) 15 .readOnly .allWrites fields 1 (entries 2) (heldAt fields (some (.gathering 1 (entries 2))) []) ∧
      met 0x1008 (.one 7) 15 .readOnly .allWrites (closingOn 0x1008) 1 (entries 2)
          (heldAt (closingOn 0x1008) (some (.gathering 1 (entries 2))) (fill 3))) ∧
    (∃ (a : Word) (d : WriteData) (i : WIdx) (ca : Access) (tap : Tap) (h : HeldFields) (id : Half) (es : List Entry)
        (s : State), s.takesStaged a d i ca tap h ∧ h.closing ≠ some (wordAddr a) ∧ (s.win i).openBatch = some (.gathering id
        es) ∧ (es.any fun e => e.addr == wordAddr a) = true ∧ h.batchLimit.toNat ≤ es.length) ∧
    (∃ (a : Word) (d : WriteData) (i : WIdx) (ca : Access) (tap : Tap) (h : HeldFields) (id : Half) (es : List Entry)
        (s : State), s.takesStaged a d i ca tap h ∧ h.closing = some (wordAddr a) ∧ (s.win i).waiting.length < 4 ∧ (s.win
        i).openBatch = some (.gathering id es) ∧ (es.any fun e => e.addr == wordAddr a) = true ∧ h.batchLimit.toNat ≤ es.length) :=
  ⟨⟨by decide, by decide⟩,
   ⟨0x1004, .one 7, 15, .readOnly, .allWrites, fields, 1, entries 2, heldAt fields (some (.gathering 1 (entries 2))) [],
       by decide⟩,
   ⟨0x1000, .one 7, 15, .readOnly, .allWrites, closingOn 0x1000, 1, entries 2,
       heldAt (closingOn 0x1000) (some (.gathering 1 (entries 2))) (fill 3), by decide⟩⟩

theorem test_hypotheses_StagedWriteAtTheFullStore :
    (∃ (a : Word) (d : WriteData) (i : WIdx) (ca : Access) (tap : Tap) (h : HeldFields) (id : Half) (es : List Entry)
        (s : State), s.takesStaged a d i ca tap h ∧ (h.closing = some (wordAddr a) → (s.win i).waiting.length < 4) ∧ s.batchFor
        i = some (id, es) ∧ (es.any fun e => e.addr == wordAddr a) = false ∧ es.length < h.batchLimit.toNat ∧ 256 ≤ s.inUse ∧ (∃
        j : WIdx, (s.win j).waiting ≠ []) ∧ s.store.writeHoldLimit ≠ 0) ∧
    (let met (a : Word) (d : WriteData) (i : WIdx) (ca : Access) (tap : Tap) (h : HeldFields) (id : Half) (es : List Entry)
        (s : State) : Prop := s.takesStaged a d i ca tap h ∧ (h.closing = some (wordAddr a) → (s.win i).waiting.length < 4) ∧
        s.batchFor i = some (id, es) ∧ (es.any fun e => e.addr == wordAddr a) = false ∧ es.length < h.batchLimit.toNat ∧ 256 ≤
        s.inUse ∧ ((∀ j : WIdx, (s.win j).waiting = []) ∨ s.store.writeHoldLimit = 0)
     met 0x1000 (.one 7) 15 .readOnly .allWrites fields 0 [] (holdLimit 0 (fillTo 256 (heldAt fields none []))) ∧
      met 0x1000 (.one 7) 15 .readOnly .allWrites fields 0 [] (fullByOpen (heldAt fields none []))) :=
  ⟨⟨0x1004, .one 7, 15, .readOnly, .allWrites, fields, 1, entries 1,
       fillTo 256 (heldAt fields (some (.gathering 1 (entries 1))) []),
       ⟨by decide, by decide, by decide, by decide, by decide, by decide, ⟨0, by decide⟩, by decide⟩⟩,
   ⟨by decide, by decide⟩⟩

theorem test_hypotheses_ClosingAndSpoiledWrites :
    (let met (a : Word) (d : WriteData) (i : WIdx) (ca : Access) (tap : Tap) (h : HeldFields) (id : Half) (es : List Entry)
        (s : State) : Prop := s.takesStaged a d i ca tap h ∧ h.closing = some (wordAddr a) ∧ s.batchFor i = some (id, es) ∧
        (s.win i).waiting.length < 4 ∧ ((es.any fun e => e.addr == wordAddr a) = true ∨ (es.length < h.batchLimit.toNat ∧
        s.inUse < 256))
     met 0x1004 (.one 7) 15 .readOnly .allWrites (closingOn 0x1004) 1 (entries 1)
          (heldAt (closingOn 0x1004) (some (.gathering 1 (entries 1))) (fill 3)) ∧
      met 0x1000 (.one 7) 15 .readOnly .allWrites (closingOn 0x1000) 0 [] (heldAt (closingOn 0x1000) none [])) ∧
    (∃ (a : Word) (d : WriteData) (i : WIdx) (ca : Access) (tap : Tap) (h : HeldFields) (id : Half) (es : List Entry)
        (s : State), s.takesStaged a d i ca tap h ∧ h.closing = some (wordAddr a) ∧ s.batchFor i = some (id, es) ∧ 4 ≤ (s.win
        i).waiting.length ∧ s.store.writeHoldLimit ≠ 0) ∧
    (∃ (a : Word) (d : WriteData) (i : WIdx) (ca : Access) (tap : Tap) (h : HeldFields) (id : Half) (es : List Entry)
        (s : State), s.takesStaged a d i ca tap h ∧ h.closing = some (wordAddr a) ∧ s.batchFor i = some (id, es) ∧ 4 ≤ (s.win
        i).waiting.length ∧ s.store.writeHoldLimit = 0) ∧
    (∃ (a : Word) (d : WriteData) (i : WIdx) (ca : Access) (tap : Tap) (h : HeldFields) (id : Half) (cause : SpoilCause)
        (s : State), s.takesStaged a d i ca tap h ∧ (s.win i).openBatch = some (.spoiled id cause)) :=
  ⟨⟨by decide, by decide⟩,
   ⟨0x1000, .one 7, 15, .readOnly, .allWrites, closingOn 0x1000, 0, [], heldAt (closingOn 0x1000) none (fill 4), by decide⟩,
   ⟨0x1000, .one 7, 15, .readOnly, .allWrites, closingOn 0x1000, 0, [], holdLimit 0 (heldAt (closingOn 0x1000) none (fill 4)),
       by decide⟩,
   ⟨0x1000, .one 7, 15, .readOnly, .allWrites, fields, 1, .batchLimit, heldAt fields (some (.spoiled 1 .batchLimit)) [],
       by decide⟩⟩

theorem test_hypotheses_HeldWriteEnds :
    (let met (w : StagedWrite) (f : WaitsFor) (t : HoldTimer) (id : Half) (es : List Entry) (s : State) : Prop :=
        s.pins.resetn = false ∧ s.upd.state = .held w f t ∧ ((f = .stagingEntry ∧ s.inUse < 256) ∨ (f = .listRoom ∧ (s.win
        w.window).waiting.length < 4)) ∧ s.batchFor w.window = some (id, es) ∧ w.fields.closing ≠ some (wordAddr w.addr) ∧
        ((es.any fun e => e.addr == wordAddr w.addr) = true ∨ (es.length < w.fields.batchLimit.toNat ∧ s.inUse < 256))
     met (heldWrite fields) .stagingEntry ⟨2000, 5⟩ 0 [] (holding fields .stagingEntry (fillTo 255 (heldAt fields none []))) ∧
      met (heldWrite fields) .listRoom ⟨2000, 5⟩ 1 (entries 2)
          (holding fields .listRoom (heldAt fields (some (.gathering 1 (entries 2))) (fill 3)))) ∧
    (∃ (w : StagedWrite) (f : WaitsFor) (t : HoldTimer) (id : Half) (es : List Entry) (s : State), s.pins.resetn = false ∧
        s.upd.state = .held w f t ∧ ((f = .stagingEntry ∧ s.inUse < 256) ∨ f = .listRoom) ∧ (s.win w.window).waiting.length < 4
        ∧ s.batchFor w.window = some (id, es) ∧ w.fields.closing = some (wordAddr w.addr) ∧ ((es.any fun e => e.addr == wordAddr
        w.addr) = true ∨ (es.length < w.fields.batchLimit.toNat ∧ s.inUse < 256))) ∧
    (∃ (w : StagedWrite) (t : HoldTimer) (id : Half) (es : List Entry) (s : State), s.pins.resetn = false ∧ s.upd.state =
        .held w .stagingEntry t ∧ s.inUse < 256 ∧ 4 ≤ (s.win w.window).waiting.length ∧ s.batchFor w.window = some (id, es) ∧
        w.fields.closing = some (wordAddr w.addr)) ∧
    (∃ (w : StagedWrite) (t : HoldTimer) (id : Half) (es : List Entry) (s : State), s.pins.resetn = false ∧ s.upd.state =
        .held w .listRoom t ∧ (s.win w.window).waiting.length < 4 ∧ s.batchFor w.window = some (id, es) ∧ (es.any fun e =>
        e.addr == wordAddr w.addr) = false ∧ es.length < w.fields.batchLimit.toNat ∧ 256 ≤ s.inUse ∧ (∃ j : WIdx, (s.win
        j).waiting ≠ [])) ∧
    (let met (cause : SpoilCause) (w : StagedWrite) (f : WaitsFor) (t : HoldTimer) (id : Half) (es : List Entry) (s : State) :
        Prop := s.pins.resetn = false ∧ s.upd.state = .held w f t ∧ ((f = .stagingEntry ∧ s.inUse < 256) ∨ f = .listRoom) ∧
        (s.win w.window).waiting.length < 4 ∧ s.batchFor w.window = some (id, es) ∧ (es.any fun e => e.addr == wordAddr w.addr)
        = false ∧ ((w.fields.batchLimit.toNat ≤ es.length ∧ cause = .batchLimit) ∨ (es.length < w.fields.batchLimit.toNat ∧ 256
        ≤ s.inUse ∧ (∀ j : WIdx, (s.win j).waiting = []) ∧ cause = .holdExpired))
     met .batchLimit (heldWrite smallFields) .listRoom ⟨2000, 5⟩ 1 (entries 1)
          (holding smallFields .listRoom (heldAt smallFields (some (.gathering 1 (entries 1))) [])) ∧
      met .holdExpired (heldWrite fields) .listRoom ⟨2000, 5⟩ 0 []
          (holding fields .listRoom (fullByOpen (heldAt fields none [])))) ∧
    (let met (s : State) : Prop := s.pins.resetn = false ∧ s.reconsiderDue = false
     met State.reset ∧
      met (holding fields .stagingEntry (fillTo 256 (heldAt fields none [])))) ∧
    (∃ (w : StagedWrite) (f : WaitsFor) (t : HoldTimer) (id : Half) (es : List Entry) (s u : State), s.settled ∧ s.upd.state =
        .held w f t ∧ s.batchFor w.window = some (id, es) ∧ u = s.elapse (t.limit.toNat - t.elapsed)) ∧
    (∃ (w : StagedWrite) (f : WaitsFor) (t : HoldTimer) (id : Half) (cause : SpoilCause) (s u : State), s.settled ∧
        s.upd.state = .held w f t ∧ (s.win w.window).openBatch = some (.spoiled id cause) ∧ u = s.elapse (t.limit.toNat -
        t.elapsed)) :=
  ⟨⟨by decide, by decide⟩,
   ⟨heldWrite (closingOn 0x1004), .listRoom, ⟨2000, 5⟩, 1, entries 1,
       holding (closingOn 0x1004) .listRoom (heldAt (closingOn 0x1004) (some (.gathering 1 (entries 1))) (fill 3)), by decide⟩,
   ⟨heldWrite (closingOn 0x1004), ⟨2000, 5⟩, 1, entries 1,
       holding (closingOn 0x1004) .stagingEntry (heldAt (closingOn 0x1004) (some (.gathering 1 (entries 1))) (fill 4)),
       by decide⟩,
   ⟨heldWrite (closingOn 0x1004), ⟨2000, 5⟩, 1, entries 1,
       holding (closingOn 0x1004) .listRoom (fillTo 256 (heldAt (closingOn 0x1004) (some (.gathering 1 (entries 1))) (fill 3))),
       ⟨by decide, by decide, by decide, by decide, by decide, by decide, by decide, ⟨0, by decide⟩⟩⟩,
   ⟨by decide, by decide⟩,
   ⟨by decide, by decide⟩,
   ⟨heldWrite fields, .stagingEntry, ⟨2000, 5⟩, 1, entries 1,
       holding fields .stagingEntry (fillTo 256 (heldAt fields (some (.gathering 1 (entries 1))) [])), _,
       ⟨by decide, rfl, by decide, rfl⟩⟩,
   ⟨heldWrite fields, .stagingEntry, ⟨2000, 5⟩, 1, .storeFull,
       holding fields .stagingEntry (fillTo 256 (heldAt fields (some (.spoiled 1 .storeFull)) [])), _,
       ⟨by decide, rfl, by decide, rfl⟩⟩⟩

theorem test_hypotheses_LanesAndUpdateView :
    (∃ (a : Word) (d : WriteData), a.toNat % sizeBytes (dataSize d) = 0) ∧
    (∃ (es : List Entry), (es.map (·.addr)).Nodup) :=
  ⟨⟨0x1002, .two 1 2, by decide⟩,
   ⟨entries 2, by decide⟩⟩

theorem test_hypotheses_RequestsWaitAtABusyPort :
    (let met (s : State) : Prop := s.settled ∧ (s.upd.state ≠ .idle ∨ s.pins.urstn = true)
     met { State.reset with pins := { State.reset.pins with urstn := true } } ∧
      met { State.reset with upd := { State.reset.upd with state := .requested ⟨.read 0 .four, .unmapped, []⟩ } }) ∧
    (let met (s : State) : Prop := s.settled ∧ (s.cyc.state ≠ .idle ∨ s.pins.crstn = true)
     met { State.reset with pins := { State.reset.pins with crstn := true } } ∧
      met readAtMemory) ∧
    (∃ (s : State), s.pins.resetn = true) :=
  ⟨⟨by decide, by decide⟩,
   ⟨by decide, by decide⟩,
   ⟨inReset, by decide⟩⟩

theorem test_hypotheses_MisalignedAndRefusedCycleTransactions :
    (∃ (r : BusRequest) (s : State), s.takesCycles ∧ (reqAddr r).toNat % sizeBytes (reqSize r) ≠ 0) ∧
    (let met (r : BusRequest) (i : WIdx) (reason : DenyReason) (ua ca : Access) (tap : Tap) (h : HeldFields) (s : State) :
        Prop := s.takesCycles ∧ (reqAddr r).toNat % sizeBytes (reqSize r) = 0 ∧ ((s.decodeAddr (reqAddr r) = .pass i ua ca tap ∧
        ca.permits (reqKind r) = false ∧ reason = .noAccess) ∨ (s.decodeAddr (reqAddr r) = .held i ua ca tap h ∧ reqKind r =
        .write ∧ reason = .heldWrite) ∨ (s.decodeAddr (reqAddr r) = .held i ua ca tap h ∧ reqKind r = .read ∧ ca = .none ∧
        reason = .noAccess) ∨ (s.decodeAddr (reqAddr r) = .faulted i ∧ reason = .faulted))
     met (.write 0x2000 (.one 1)) 1 .noAccess .readOnly .readOnly .allWrites fields (passAt .readOnly) ∧
      met (.write 0x1000 (.one 1)) 15 .heldWrite .readWrite .readOnly .allWrites fields (heldAt fields none []) ∧
      met (.read 0x1000 .one) 15 .noAccess .readWrite .none .allWrites fields (heldFor .readWrite .none) ∧
      met (.read 0x1000 .one) 15 .faulted .readWrite .none .allWrites fields haltedEngine) :=
  ⟨⟨.read 3 .two, State.reset, by decide⟩,
   ⟨by decide, by decide, by decide, by decide⟩⟩

theorem test_hypotheses_PlacedOrHeldCycleAccess :
    (let met (r : BusRequest) (i : WIdx) (ua ca : Access) (tap : Tap) (h : HeldFields) (d : Decode) (s : State) : Prop :=
        s.takesCycles ∧ (reqAddr r).toNat % sizeBytes (reqSize r) = 0 ∧ s.decodeAddr (reqAddr r) = d ∧ (d = .unmapped ∨ (d =
        .pass i ua ca tap ∧ ca.permits (reqKind r) = true) ∨ (d = .held i ua ca tap h ∧ reqKind r = .read ∧ ca ≠ .none ∧
        s.inHandWindow ≠ some i))
     met (.write 0xFFF (.one 1)) 0 .none .none .off fields .unmapped (heldAt fields none []) ∧
      met (.read 0x203F .one) 1 .readOnly .readOnly .allWrites fields (.pass 1 .readOnly .readOnly .allWrites)
          (passAt .readOnly) ∧
      met (.read 0x1000 .one) 15 .readWrite .readOnly .allWrites fields (.held 15 .readWrite .readOnly .allWrites fields)
          (heldAt fields none [])) ∧
    (∃ (a : Word) (size : Size) (i : WIdx) (ua ca : Access) (tap : Tap) (h : HeldFields) (s : State), s.takesCycles ∧ a.toNat
        % sizeBytes size = 0 ∧ s.decodeAddr a = .held i ua ca tap h ∧ ca ≠ .none ∧ s.inHandWindow = some i) ∧
    (∃ (i : WIdx) (t : CycleTxn) (s : State), s.cyc.state = .requested t ∧ t.decode.heldWindow = some i) ∧
    (∃ (i : WIdx) (s : State), (∀ t, s.cyc.state = .requested t → t.decode.heldWindow ≠ some i)) ∧
    (∃ (i : WIdx) (t : CycleTxn) (s : State), s.cyc.state = .held t ∧ t.decode.heldWindow = some i) ∧
    (∃ (i : WIdx) (s : State), (∀ t, s.cyc.state = .held t → t.decode.heldWindow ≠ some i)) :=
  ⟨⟨by decide, by decide, by decide⟩,
   ⟨0x1000, .four, 15, .readWrite, .readOnly, .allWrites, fields, commitAt 0 .readOld, by decide⟩,
   ⟨15, heldRead, cycleIn (.requested heldRead) State.reset, by decide⟩,
   ⟨14, cycleIn (.requested heldRead) State.reset, fun | _, rfl => by decide⟩,
   ⟨15, heldRead, cycleIn (.held heldRead) State.reset, by decide⟩,
   ⟨14, cycleIn (.held heldRead) State.reset, fun | _, rfl => by decide⟩⟩

theorem test_hypotheses_QualifierEdges :
    (∃ (line : EpochLine) (s : State), s.settled ∧ s.pins.level line = false ∧ (s.epoch.qualifier line).time = 0) ∧
    (let met (line : EpochLine) (s : State) : Prop := s.settled ∧ s.pins.level line = false ∧ (s.epoch.qualifier line).time ≠
        0
     met .a { State.reset with epoch := { State.reset.epoch with lineA := ⟨.low, 1⟩ } } ∧
      met .a { State.reset with epoch := { State.reset.epoch with lineA := ⟨.low, 15⟩ } }) ∧
    (∃ (line : EpochLine) (time : Byte) (k : Nat) (s : State), s.settled ∧ s.pins.level line = true ∧ (s.epoch.qualifier
        line).state = .qualifying time k ∧ k < time.toNat) ∧
    (∃ (line : EpochLine) (s : State), s.settled ∧ s.pins.level line = true ∧ ((s.epoch.qualifier line).state = .high ∨
        (s.epoch.qualifier line).state = .low)) ∧
    (∃ (line : EpochLine) (time : Byte) (k : Nat) (s : State), s.settled ∧ s.pins.level line = true ∧ (s.epoch.qualifier
        line).state = .qualifying time k ∧ time.toNat ≤ k) ∧
    (∃ (line : EpochLine) (s : State), s.settled ∧ s.pins.level line = true) ∧
    (∃ (line : EpochLine) (s : State), s.settled ∧ s.pins.level line = false) :=
  ⟨⟨.a, { State.reset with epoch := { State.reset.epoch with lineA := ⟨.low, 0⟩ } }, by decide⟩,
   ⟨by decide, by decide⟩,
   ⟨.a, 2, 1,
       { State.reset with pins := { State.reset.pins with epochA := true }, epoch := { State.reset.epoch with lineA := ⟨.qualifying 2 1, 3⟩ } },
       by decide⟩,
   ⟨.b,
       { State.reset with pins := { State.reset.pins with epochB := true }, epoch := { State.reset.epoch with lineB := ⟨.high, 2⟩ } },
       by decide⟩,
   ⟨.a, 2, 2,
       { State.reset with pins := { State.reset.pins with epochA := true }, epoch := { State.reset.epoch with lineA := ⟨.qualifying 2 2, 3⟩ } },
       by decide⟩,
   ⟨.b,
       { State.reset with pins := { State.reset.pins with epochB := true }, epoch := { State.reset.epoch with lineB := ⟨.high, 2⟩ } },
       by decide⟩,
   ⟨.a,
       { State.reset with pins := { State.reset.pins with epochB := true }, epoch := { State.reset.epoch with lineB := ⟨.high, 2⟩ } },
       by decide⟩⟩

theorem test_hypotheses_AcceptedPulse :
    (∃ (line : EpochLine) (time : Byte) (elapsed : Nat) (s u : State), s.settled ∧ (s.epoch.qualifier line).state =
        .qualifying time elapsed ∧ u = s.elapse (time.toNat - elapsed)) ∧
    (let met (line : EpochLine) (s : State) : Prop := s.settled ∧ ((s.epoch.qualifier line).state = .low ∨ (s.epoch.qualifier
        line).state = .high)
     met .a State.reset ∧
      met .b
          { State.reset with pins := { State.reset.pins with epochB := true }, epoch := { State.reset.epoch with lineB := ⟨.high, 2⟩ } }) ∧
    (∃ (s : State), s.epoch.mode ≠ .syncA) ∧
    (∃ (s t : State), s.epoch.mode = .syncA ∧ t = State.deliver ⟨.lineA, s.epoch.epochsA + 1⟩
          { s with epoch := { s.epoch with epochsA := s.epoch.epochsA + 1 } }) :=
  ⟨⟨.a, 2, 1,
       { State.reset with pins := { State.reset.pins with epochA := true }, epoch := { State.reset.epoch with lineA := ⟨.qualifying 2 1, 3⟩ } },
       _, ⟨by decide, rfl, rfl⟩⟩,
   ⟨by decide, by decide⟩,
   ⟨State.reset, by decide⟩,
   ⟨timerIn .syncA, _, ⟨by decide, rfl⟩⟩⟩

theorem test_hypotheses_PeriodEnd :
    (∃ (s u : State), s.settled ∧ s.epoch.mode = .free ∧ u = s.elapse (s.epoch.active.toNat - s.epoch.count.toNat)) ∧
    (∃ (s u t : State), s.settled ∧ s.epoch.mode = .syncA ∧ u = s.elapse (s.epoch.active.toNat - s.epoch.count.toNat) ∧ t = State.deliver ⟨.timer, s.epoch.epochsTimer + 1⟩ { u with epoch := { u.epoch with
            count := 0, active := s.epoch.pending.getD s.epoch.active, pending := none, epochsTimer := s.epoch.epochsTimer + 1 } }) ∧
    (∃ (s : State), s.settled ∧ s.epoch.mode = .off) :=
  ⟨⟨timerIn .free, _, ⟨by decide, rfl, rfl⟩⟩,
   ⟨timerIn .syncA, _, _, ⟨by decide, rfl, rfl, rfl⟩⟩,
   ⟨State.reset, by decide⟩⟩

theorem test_hypotheses_EpochDelivery :
    (∃ (st : Stamp) (i : WIdx) (s : State), (s.win i).place.activeHeld.map (·.source) ≠ some (.epoch st.source)) ∧
    (∃ (st : Stamp) (i : WIdx) (h : HeldFields) (b : WaitBatch) (ws : List WaitBatch) (s t : State), (s.win
        i).place.activeHeld = some h ∧ h.source = .epoch st.source ∧ t = (if h.closeMode = .onEpoch then s.epochClose st i else
        s) ∧ (t.win i).waiting = b :: ws ∧ (b :: ws).all (fun c => c.state == .closed) = true) ∧
    (∃ (st : Stamp) (i : WIdx) (h : HeldFields) (s t : State), (s.win i).place.activeHeld = some h ∧ h.source = .epoch
        st.source ∧ t = (if h.closeMode = .onEpoch then s.epochClose st i else s) ∧ (t.win i).waiting.any (fun c => c.state !=
        .closed) = true ∧ (t.win i).waiting.any (fun c => c.state == .closed) = true) ∧
    (∃ (st : Stamp) (i : WIdx) (h : HeldFields) (s t : State), (s.win i).place.activeHeld = some h ∧ h.source = .epoch
        st.source ∧ t = (if h.closeMode = .onEpoch then s.epochClose st i else s) ∧ (t.win i).waiting.any (fun c => c.state ==
        .closed) = false) :=
  ⟨⟨⟨.timer, 1⟩, 0, State.reset, by decide⟩,
   ⟨⟨.timer, 1⟩, 15, fields, ⟨1, entries 2, .closed, .epoch, none⟩, [], heldAt fields (some (.gathering 1 (entries 2))) [], _,
       ⟨rfl, rfl, rfl, rfl, rfl⟩⟩,
   ⟨⟨.timer, 1⟩, 15, fields, heldAt fields (some (.gathering 1 (entries 2))) [batch .queued 2], _, ⟨rfl, rfl, rfl, rfl, rfl⟩⟩,
   ⟨⟨.timer, 1⟩, 15, fields, heldAt fields none [batch .committing 2], _, ⟨rfl, rfl, rfl, rfl⟩⟩⟩

theorem test_hypotheses_CloseStepAndImmediateQueueing :
    (∃ (i : WIdx) (s : State), (s.win i).openBatch = none) ∧
    (∃ (i : WIdx) (id : Half) (es : List Entry) (s : State), (s.win i).openBatch = some (.gathering id es) ∧ es = []) ∧
    (∃ (i : WIdx) (id : Half) (es : List Entry) (s : State), (s.win i).openBatch = some (.gathering id es) ∧ es ≠ [] ∧ (s.win
        i).waiting.length < 4) ∧
    (∃ (i : WIdx) (id : Half) (es : List Entry) (s : State), (s.win i).openBatch = some (.gathering id es) ∧ es ≠ [] ∧ 4 ≤
        (s.win i).waiting.length) ∧
    (∃ (i : WIdx) (id : Half) (cause : SpoilCause) (s : State), (s.win i).openBatch = some (.spoiled id cause)) ∧
    (∃ (i : WIdx) (b : WaitBatch) (ws : List WaitBatch) (s : State), (s.win i).place.activeHeld.map (·.source) = some
        .immediate ∧ (s.win i).waiting = b :: ws ∧ (b :: ws).all (fun c => c.state == .closed) = true) ∧
    (let met (i : WIdx) (s : State) : Prop := ((s.win i).place.activeHeld.map (·.source) ≠ some .immediate ∨ (s.win i).waiting
        = [] ∨ (s.win i).waiting.any (fun c => c.state != .closed) = true)
     met 15 (heldAt (closingOn 0x1000) none []) ∧
      met 15 (heldAt (closingOn 0x1000) none [batch .queued 2]) ∧
      met 15 (heldAt fields none [batch .closed 2])) :=
  ⟨⟨15, State.reset, by decide⟩,
   ⟨15, 1, [], heldAt fields (some (.gathering 1 [])) [], by decide⟩,
   ⟨15, 1, entries 2, heldAt fields (some (.gathering 1 (entries 2))) (fill 3), by decide⟩,
   ⟨15, 1, entries 2, heldAt fields (some (.gathering 1 (entries 2))) (fill 4), by decide⟩,
   ⟨15, 1, .storeFull, heldAt fields (some (.spoiled 1 .storeFull)) [], by decide⟩,
   ⟨15, batch .closed 2, [], heldAt (closingOn 0x1000) none [batch .closed 2], by decide⟩,
   ⟨by decide, by decide, by decide⟩⟩

theorem test_hypotheses_CommitStart :
    (∃ (i : WIdx) (id : Half) (rest : List (WIdx × Half)) (b : WaitBatch) (ws : List WaitBatch) (e : Entry) (es : List Entry)
        (s : State), s.settled ∧ s.engine.state = .idle ∧ s.engine.gate = .opened ∧ s.engine.fullReset = false ∧ s.engine.queue
        = (i, id) :: rest ∧ (s.win i).waiting = b :: ws ∧ b.state = .queued ∧ ws.all (fun c => c.state == .closed) = true ∧
        b.entries = e :: es) ∧
    (let met (s : State) : Prop := s.settled ∧ (s.engine.state ≠ .idle ∨ s.engine.gate ≠ .opened ∨ s.engine.fullReset = true ∨
        s.engine.queue = [])
     met State.reset ∧
      met (commitAt 0 .readOld)) :=
  ⟨⟨15, 7, [], batch .queued 2, [], ⟨0x1000, lanes⟩, [⟨0x1004, lanes⟩], queuedCommit, by decide⟩,
   ⟨by decide, by decide⟩⟩

theorem test_hypotheses_CommitAccessDone :
    (∃ (h : BatchInHand) (k : Nat) (b : WaitBatch) (ws : List WaitBatch) (e : Entry) (s : State), s.accessBy .ce ∧
        s.engine.state = .committing ∧ s.engine.inHand = some h ∧ s.engine.cursor = some ⟨k, .readOld⟩ ∧ (s.win
        h.window).waiting = b :: ws ∧ b.state = .committing ∧ b.entries[k]? = some e) ∧
    (∃ (h : BatchInHand) (k : Nat) (b : WaitBatch) (ws : List WaitBatch) (e e2 : Entry) (s : State), s.accessBy .ce ∧
        s.engine.state = .committing ∧ s.engine.inHand = some h ∧ s.engine.cursor = some ⟨k, .writeNew⟩ ∧ (s.win
        h.window).waiting = b :: ws ∧ b.state = .committing ∧ b.entries[k]? = some e ∧ b.entries[k + 1]? = some e2) ∧
    (∃ (h : BatchInHand) (k : Nat) (b : WaitBatch) (ws : List WaitBatch) (e : Entry) (s : State), s.accessBy .ce ∧
        s.engine.state = .committing ∧ s.engine.inHand = some h ∧ s.engine.cursor = some ⟨k, .writeNew⟩ ∧ (s.win
        h.window).waiting = b :: ws ∧ b.state = .committing ∧ b.entries[k]? = some e ∧ b.entries[k + 1]? = none) :=
  ⟨⟨⟨15, 7, 0⟩, 0, batch .committing 2, [], ⟨0x1000, lanes⟩, commitAt 0 .readOld, by decide⟩,
   ⟨⟨15, 7, 0⟩, 0, batch .committing 2, [], ⟨0x1000, lanes⟩, ⟨0x1004, lanes⟩, commitAt 0 .writeNew, by decide⟩,
   ⟨⟨15, 7, 1⟩, 1, batch .committing 2, [], ⟨0x1004, lanes⟩, commitAt 1 .writeNew, by decide⟩⟩

theorem test_hypotheses_CommitAccessFails :
    (∃ (h : BatchInHand) (c : Cursor) (b : WaitBatch) (ws : List WaitBatch) (e : Entry) (us : List UndoRecord)
        (r : UndoRecord) (s : State), s.accessBy .ce ∧ s.engine.state = .committing ∧ s.engine.inHand = some h ∧ s.engine.cursor
        = some c ∧ (s.win h.window).waiting = b :: ws ∧ b.state = .committing ∧ ws.all (fun w => w.state == .closed) = true ∧
        b.entries[c.index]? = some e ∧ s.engine.undo = us ++ [r]) ∧
    (∃ (h : BatchInHand) (c : Cursor) (b : WaitBatch) (ws : List WaitBatch) (e : Entry) (s : State), s.accessBy .ce ∧
        s.engine.state = .committing ∧ s.engine.inHand = some h ∧ s.engine.cursor = some c ∧ (s.win h.window).waiting = b :: ws
        ∧ b.state = .committing ∧ ws.all (fun w => w.state == .closed) = true ∧ b.entries[c.index]? = some e ∧ s.engine.undo =
        []) :=
  ⟨⟨⟨15, 7, 1⟩, ⟨1, .readOld⟩, batch .committing 2, [], ⟨0x1004, lanes⟩, [], undoRecord 0x1000, commitAt 1 .readOld,
       by decide⟩,
   ⟨⟨15, 7, 0⟩, ⟨0, .readOld⟩, batch .committing 2, [], ⟨0x1000, lanes⟩, commitAt 0 .readOld, by decide⟩⟩

theorem test_hypotheses_RollbackWriteDone :
    (∃ (c : FaultContext) (us : List UndoRecord) (r r2 : UndoRecord) (s : State), s.accessBy .ce ∧ s.engine.state =
        .rollingBack ∧ s.engine.context = some c ∧ s.engine.undo = us ++ [r, r2]) ∧
    (∃ (c : FaultContext) (h : BatchInHand) (b : WaitBatch) (ws : List WaitBatch) (r : UndoRecord) (s : State), s.accessBy .ce
        ∧ s.engine.state = .rollingBack ∧ s.engine.context = some c ∧ s.engine.undo = [r] ∧ s.engine.inHand = some h ∧ (s.win
        h.window).waiting = b :: ws ∧ b.state = .rollingBack) ∧
    (∃ (c : FaultContext) (tag code : Byte) (payload : List Byte) (r : UndoRecord) (s : State), s.accessBy .ce ∧
        s.engine.state = .rollingBack ∧ s.engine.context = some c ∧ s.engine.undo = [r] ∧ s.engine.inHand = none ∧ s.svc.slot =
        .working tag code payload) :=
  ⟨⟨context, [], undoRecord 0x1000, undoRecord 0x1004, rollbackOf 2 true [], by decide⟩,
   ⟨context, ⟨15, 7, 1⟩, batch .rollingBack 2, [], undoRecord 0x1000, rollbackOf 1 true [], by decide⟩,
   ⟨context, 1, 0x13, [0x0F, 0x01], undoRecord 0x1000, rollbackOf 1 false [], by decide⟩⟩

theorem test_hypotheses_RollbackWriteFails :
    (∃ (c : FaultContext) (h : BatchInHand) (d : Descriptor) (b : WaitBatch) (ws : List WaitBatch) (s : State), s.accessBy .ce
        ∧ s.engine.state = .rollingBack ∧ s.engine.context = some c ∧ s.engine.inHand = some h ∧ (s.win h.window).place =
        .active d ∧ (s.win h.window).waiting = b :: ws ∧ b.state = .rollingBack) ∧
    (∃ (c : FaultContext) (d : Descriptor) (tag code : Byte) (payload : List Byte) (s : State), s.accessBy .ce ∧
        s.engine.state = .rollingBack ∧ s.engine.context = some c ∧ s.engine.inHand = none ∧ (s.win c.window).place = .active d
        ∧ (s.win c.window).waiting.all (fun w => w.state == .closed) = true ∧ s.svc.slot = .working tag code payload) ∧
    (∃ (c : FaultContext) (d : Descriptor) (b : WaitBatch) (ws : List WaitBatch) (tag code : Byte) (payload : List Byte)
        (s : State), s.accessBy .ce ∧ s.engine.state = .rollingBack ∧ s.engine.context = some c ∧ s.engine.inHand = none ∧
        (s.win c.window).place = .active d ∧ (s.win c.window).waiting = b :: ws ∧ b.state = .queued ∧ s.svc.slot = .working tag
        code payload) :=
  ⟨⟨context, ⟨15, 7, 1⟩, descriptor fields .readWrite .readOnly, batch .rollingBack 2, [], rollbackOf 1 true [], by decide⟩,
   ⟨context, descriptor fields .readWrite .readOnly, 1, 0x13, [0x0F, 0x01], rollbackOf 1 false [], by decide⟩,
   ⟨context, descriptor fields .readWrite .readOnly, batch .queued 2, [], 1, 0x13, [0x0F, 0x01],
       rollbackOf 1 false [batch .queued 2], by decide⟩⟩

theorem test_hypotheses_ArbiterChoice :
    (∃ (a : Arbiter) (r : BusRequest), a.cp = some r ∧ a.ce = none ∧ a.up = none ∧ a.sl = none) ∧
    (∃ (a : Arbiter) (r : BusRequest), a.cp = some r ∧ (a.ce ≠ none ∨ a.up ≠ none ∨ a.sl ≠ none) ∧ a.streak ≤ 7) ∧
    (let met (a : Arbiter) (r : BusRequest) : Prop := (a.cp = none ∨ a.streak = 8) ∧ a.ce = some r
     met ⟨none, some (.read 0 .four), some (.read 0 .four), none, none, 8, 50⟩ (.read 0 .four) ∧
      met ⟨none, none, some (.read 0 .four), none, none, 0, 50⟩ (.read 0 .four)) ∧
    (∃ (a : Arbiter) (r : BusRequest), (a.cp = none ∨ a.streak = 8) ∧ a.ce = none ∧ a.up = some r) ∧
    (∃ (a : Arbiter) (r : BusRequest), (a.cp = none ∨ a.streak = 8) ∧ a.ce = none ∧ a.up = none ∧ a.sl = some r) ∧
    (∃ (a : Arbiter), a.cp = none ∧ a.ce = none ∧ a.up = none ∧ a.sl = none) ∧
    (∃ (a : Arbiter) (who : Requester) (r : BusRequest) (k : Nat), a.streak ≤ 8 ∧ a.choose = some (who, r, k)) :=
  ⟨⟨⟨none, some (.read 0 .four), none, none, none, 8, 50⟩, .read 0 .four, by decide⟩,
   ⟨⟨none, some (.read 0 .four), some (.read 0 .four), none, none, 7, 50⟩, .read 0 .four, by decide⟩,
   ⟨by decide, by decide⟩,
   ⟨⟨none, some (.read 0 .four), none, some (.read 0 .four), none, 8, 50⟩, .read 0 .four, by decide⟩,
   ⟨⟨none, some (.read 0 .four), none, none, some (.read 0 .four), 8, 50⟩, .read 0 .four, by decide⟩,
   ⟨⟨none, none, none, none, none, 0, 50⟩, by decide⟩,
   ⟨⟨none, some (.read 0 .four), some (.read 0 .four), none, none, 7, 50⟩, .cp, .read 0 .four, 8, by decide⟩⟩

theorem test_hypotheses_GrantAndAccessEnd :
    (∃ (r : BusRequest) (k : Nat) (t : CycleTxn) (s : State), s.settled ∧ s.arb.port = none ∧ s.arb.choose = some (.cp, r, k)
        ∧ s.cyc.state = .requested t) ∧
    (∃ (r : BusRequest) (k : Nat) (t : UpdateTxn) (s : State), s.settled ∧ s.arb.port = none ∧ s.arb.choose = some (.up, r, k)
        ∧ s.upd.state = .requested t) ∧
    (∃ (r : BusRequest) (k : Nat) (s : State), s.settled ∧ s.arb.port = none ∧ s.arb.choose = some (.ce, r, k)) ∧
    (∃ (r : BusRequest) (k : Nat) (s : State), s.settled ∧ s.arb.port = none ∧ s.arb.choose = some (.sl, r, k)) ∧
    (let met (s : State) : Prop := s.settled ∧ (s.arb.port ≠ none ∨ s.arb.choose = none)
     met State.reset ∧
      met (commitAt 0 .readOld)) ∧
    (∃ (s : State), s.settled) ∧
    (∃ (p : PortAccess) (s : State), s.settled ∧ s.arb.port = some p) ∧
    (∃ (s : State), s.settled ∧ s.arb.port = none) :=
  ⟨⟨.read 0x1000 .four, 0, heldRead,
       { State.reset with arb := { State.reset.arb with cp := some (.read 0x1000 .four) }, cyc := { State.reset.cyc with state := .requested heldRead } },
       by decide⟩,
   ⟨.read 0x1000 .four, 0, plainRead,
       { State.reset with arb := { State.reset.arb with up := some (.read 0x1000 .four) }, upd := { State.reset.upd with state := .requested plainRead } },
       by decide⟩,
   ⟨.read 0x1000 .four, 0, { State.reset with arb := { State.reset.arb with ce := some (.read 0x1000 .four) } }, by decide⟩,
   ⟨.read 0x1000 .four, 0, { State.reset with arb := { State.reset.arb with sl := some (.read 0x1000 .four) } }, by decide⟩,
   ⟨by decide, by decide⟩,
   ⟨commitAt 0 .readOld, by decide⟩,
   ⟨⟨.read 0x1000 .four, .ce, 50, 0⟩, commitAt 0 .readOld, by decide⟩,
   ⟨State.reset, by decide⟩⟩

theorem test_hypotheses_UpdateAccessEnds :
    (∃ (t : UpdateTxn) (a : Word) (size : Size) (s : State), s.accessBy .up ∧ s.upd.state = .atMemory t ∧ t.req = .read a
        size) ∧
    (∃ (t : UpdateTxn) (a : Word) (d : WriteData) (s : State), s.accessBy .up ∧ s.upd.state = .atMemory t ∧ t.req = .write a
        d) ∧
    (∃ (t : UpdateTxn) (s : State), s.accessBy .up ∧ s.upd.state = .atMemory t) ∧
    (∃ (t : UpdateTxn) (s : State), s.accessBy .up ∧ s.upd.state = .draining t) ∧
    (∃ (t : UpdateTxn) (s : State), s.accessBy .up ∧ s.upd.state = .draining t) :=
  ⟨⟨plainRead, 0x1000, .four, busyFor .up { State.reset with upd := { State.reset.upd with state := .atMemory plainRead } },
       by decide⟩,
   ⟨plainWrite, 0x1000, .one 7,
       busyFor .up { State.reset with upd := { State.reset.upd with state := .atMemory plainWrite } }, by decide⟩,
   ⟨plainRead, busyFor .up { State.reset with upd := { State.reset.upd with state := .atMemory plainRead } }, by decide⟩,
   ⟨plainRead, busyFor .up { State.reset with upd := { State.reset.upd with state := .draining plainRead } }, by decide⟩,
   ⟨plainRead, busyFor .up { State.reset with upd := { State.reset.upd with state := .draining plainRead } }, by decide⟩⟩

theorem test_hypotheses_CycleAccessEnds :
    (∃ (t : CycleTxn) (i : WIdx) (a : Word) (size : Size) (s : State), s.accessBy .cp ∧ s.cyc.state = .atMemory t ∧ t.req =
        .read a size ∧ t.decode.heldWindow = some i ∧ s.inHandWindow = some i) ∧
    (∃ (t : CycleTxn) (a : Word) (size : Size) (s : State), s.accessBy .cp ∧ s.cyc.state = .atMemory t ∧ t.req = .read a size
        ∧ (t.decode.heldWindow = none ∨ t.decode.heldWindow ≠ s.inHandWindow)) ∧
    (∃ (t : CycleTxn) (a : Word) (d : WriteData) (s : State), s.accessBy .cp ∧ s.cyc.state = .atMemory t ∧ t.req = .write a d) ∧
    (∃ (t : CycleTxn) (s : State), s.accessBy .cp ∧ s.cyc.state = .atMemory t) ∧
    (∃ (t : CycleTxn) (s : State), s.accessBy .cp ∧ s.cyc.state = .draining t) ∧
    (∃ (t : CycleTxn) (s : State), s.accessBy .cp ∧ s.cyc.state = .draining t) :=
  ⟨⟨heldRead, 15, 0x1000, .four, busyFor .cp (cycleIn (.atMemory heldRead) (commitAt 0 .readOld)), by decide⟩,
   ⟨heldRead, 0x1000, .four, busyFor .cp (cycleIn (.atMemory heldRead) State.reset), by decide⟩,
   ⟨⟨.write 0x1000 (.one 7), .unmapped⟩, 0x1000, .one 7,
       busyFor .cp (cycleIn (.atMemory ⟨.write 0x1000 (.one 7), .unmapped⟩) State.reset), by decide⟩,
   ⟨heldRead, busyFor .cp (cycleIn (.atMemory heldRead) State.reset), by decide⟩,
   ⟨heldRead, busyFor .cp (cycleIn (.draining heldRead) State.reset), by decide⟩,
   ⟨heldRead, busyFor .cp (cycleIn (.draining heldRead) State.reset), by decide⟩⟩

theorem test_hypotheses_MemoryProbe :
    (∃ (a : Word) (s : State), s.takesCommands ∧ a.toNat % 4 ≠ 0) ∧
    (∃ (a : Word) (i : WIdx) (s : State), s.takesCommands ∧ a.toNat % 4 = 0 ∧ s.decodeAddr a = .faulted i) ∧
    (∃ (a : Word) (d : Decode) (s : State), s.takesCommands ∧ a.toNat % 4 = 0 ∧ s.decodeAddr a = d ∧ (∀ i, d ≠ .faulted i)) ∧
    (let met (a : Word) (d : Decode) (i : WIdx) (v : Quad (Option Byte)) (s : State) : Prop := s.takesCommands ∧ a.toNat % 4 =
        0 ∧ s.decodeAddr a = d ∧ d.heldWindow = some i ∧ v = (s.win i).viewWord a
     met 0x1000 (.held 15 .readWrite .readOnly .allWrites fields) 15 lanes
          (heldAt fields (some (.gathering 1 (entries 1))) []) ∧
      met 0x1004 (.held 15 .readWrite .readOnly .allWrites fields) 15 ⟨none, none, none, none⟩
          (heldAt fields (some (.gathering 1 (entries 1))) [])) ∧
    (∃ (p : Probe) (tag code : Byte) (payload : List Byte) (s : State), s.accessBy .sl ∧ s.svc.probe = some p ∧ s.svc.slot =
        .working tag code payload) ∧
    (∃ (p : Probe) (tag code : Byte) (payload : List Byte) (s : State), s.accessBy .sl ∧ s.svc.probe = some p ∧ s.svc.slot =
        .working tag code payload) :=
  ⟨⟨0xFFFFFFFF, State.reset, by decide⟩,
   ⟨0x103C, 15, haltedEngine, by decide⟩,
   ⟨0xFFFFFFFC, .unmapped, State.reset, ⟨by decide, by decide, by decide, nofun⟩⟩,
   ⟨by decide, by decide⟩,
   ⟨⟨0, .memory, .unmapped, ⟨none, none, none, none⟩⟩, 1, 0x70, [], probing, by decide⟩,
   ⟨⟨0, .memory, .unmapped, ⟨none, none, none, none⟩⟩, 1, 0x70, [], probing, by decide⟩⟩

theorem test_hypotheses_RecordAcceptedOrDropped :
    (∃ (r : ReportUnit), r.queue.length < 64) ∧
    (∃ (r : ReportUnit), 64 ≤ r.queue.length) ∧
    (let met (r : ReportUnit) : Prop := r.queue.length ≤ 64
     met ((reports 64).rep) ∧
      met ((reports 63).rep)) :=
  ⟨⟨(reports 63).rep, by decide⟩,
   ⟨(reports 64).rep, by decide⟩,
   ⟨by decide, by decide⟩⟩

theorem test_hypotheses_ReportsTake :
    (∃ (s : State), s.takesCommands ∧ s.rep.queue = []) ∧
    (let met (s : State) : Prop := s.takesCommands ∧ s.rep.queue ≠ [] ∧ s.rep.lost = 0
     met (reports 1) ∧
      met (reports 64)) ∧
    (∃ (s : State), s.takesCommands ∧ s.rep.queue ≠ [] ∧ s.rep.lost ≠ 0 ∧ s.rep.queue.length ≤ 64) :=
  ⟨⟨State.reset, by decide⟩,
   ⟨by decide, by decide⟩,
   ⟨{ reports 64 with rep := { (reports 64).rep with lost := 65535 } }, by decide⟩⟩

theorem test_hypotheses_TimeAndTheIdleTimer :
    (∃ (s : State), s.pins.resetn = false) ∧
    (∃ (s u : State), s.settled ∧ s.rep.idleRunOut = false ∧ u = s.elapse (s.rep.idleTime.toNat * 100 - s.rep.idleElapsed)) ∧
    (∃ (s : State), s.settled ∧ s.rep.idleRunOut = true) :=
  ⟨⟨State.reset, by decide⟩,
   ⟨State.reset, _, ⟨by decide, rfl, rfl⟩⟩,
   ⟨{ State.reset with rep := { State.reset.rep with idleRunOut := true } }, by decide⟩⟩

theorem test_hypotheses_LinkTransactionStart :
    (∃ (s : State), s.settled ∧ s.pins.ssn = false) ∧
    (∃ (s : State), s.settled ∧ s.pins.ssn = true) ∧
    (∃ (t : LinkTxn) (s : State), s.pins.resetn = false ∧ s.svc.link = some t) ∧
    (let met (s : State) : Prop := (s.pins.resetn = true ∨ s.svc.link = none)
     met inReset ∧
      met { State.reset with pins := { State.reset.pins with ssn := true } }) :=
  ⟨⟨State.reset, by decide⟩,
   ⟨linked .idle 0x20 .kindPending, by decide⟩,
   ⟨⟨0x20, .kindPending⟩, linked .idle 0x20 .kindPending, by decide⟩,
   ⟨by decide, by decide⟩⟩

theorem test_hypotheses_RequestFrameRunsItsCommand :
    (∃ (c : Instr) (frame : List Byte) (t : LinkTxn) (s : State), requestOf c = some frame ∧ s.takesCommands ∧ s.svc.link =
        some t ∧ t.phase = .kindPending ∧ showedIdle t.status = true) ∧
    (∃ (payload : List Byte), payload.length ≤ 60) ∧
    (∃ (tag code : Byte) (payload body : List Byte), payload.length ≤ 60 ∧ body = [0xC1, tag, code, BitVec.ofNat 8
        payload.length] ++ payload) ∧
    (let met (bytes rest : List Byte) (kind tag code len : Byte) : Prop := (bytes.length < 4 ∨ (bytes = kind :: tag :: code ::
        len :: rest ∧ (kind ≠ 0xC1 ∨ 60 < len.toNat ∨ rest.length ≤ len.toNat)))
     met [0xC1, 1, 2] [] 0 0 0 0 ∧
      met [0xC2, 1, 2, 0, 4] [4] 0xC2 1 2 0 ∧
      met [0xC1, 1, 2, 61, 4] [4] 0xC1 1 2 61 ∧
      met [0xC1, 1, 2, 1, 4] [4] 0xC1 1 2 1) :=
  ⟨⟨.ident 1, requestFrame 1 1 [], ⟨0x20, .kindPending⟩, linked .idle 0x20 .kindPending, ⟨rfl, by decide, rfl, rfl, rfl⟩⟩,
   ⟨List.replicate 60 0, by decide⟩,
   ⟨0, 0, List.replicate 60 0, _, ⟨by decide, rfl⟩⟩,
   ⟨by decide, by decide, by decide, by decide⟩⟩

theorem test_hypotheses_BadAndDroppedRequests :
    (∃ (frame : List Byte) (f : RequestFrame) (t : LinkTxn) (s : State), s.takesCommands ∧ s.svc.link = some t ∧ t.phase =
        .kindPending ∧ showedIdle t.status = true ∧ parseFrame frame = some f ∧ f.good = false) ∧
    (let met (received : List Byte) (t : LinkTxn) (s : State) : Prop := s.takesCommands ∧ s.pins.ssn = true ∧ s.svc.link =
        some t ∧ t.phase = .kindPending ∧ showedIdle t.status = true ∧ parseFrame (0xC1 :: received) = none
     met [0x05, 0x01, 0x3D] ⟨0x20, .kindPending⟩ (linked .idle 0x20 .kindPending) ∧
      met [] ⟨0x20, .kindPending⟩ (linked .idle 0x20 .kindPending)) ∧
    (∃ (frame : List Byte) (f : RequestFrame) (t : LinkTxn) (s : State), s.settled ∧ s.svc.link = some t ∧ t.phase =
        .kindPending ∧ showedIdle t.status = false ∧ parseFrame frame = some f) ∧
    (∃ (t : LinkTxn) (s : State), s.settled ∧ s.svc.link = some t ∧ t.phase = .kindPending ∧ showedIdle t.status = false) ∧
    (∃ (c : Instr) (s : State), s.settled ∧ s.svc.slot ≠ .idle ∧ (requestOf c).isSome = true) ∧
    (∃ (s : State), s.settled ∧ s.pins.ssn = false) ∧
    (let met (code : Byte) (payload : List Byte) (t : LinkTxn) (s : State) : Prop := s.takesCommands ∧ s.svc.link = some t ∧
        t.phase = .kindPending ∧ showedIdle t.status = true ∧ payload.length ≤ 60 ∧ code ∉ ([0x01, 0x10, 0x11, 0x12, 0x13, 0x20,
        0x21, 0x22, 0x30, 0x31, 0x40, 0x50, 0x51, 0x52, 0x60, 0x70, 0x7F] : List Byte)
     met 0x00 [] ⟨0x20, .kindPending⟩ (linked .idle 0x20 .kindPending) ∧
      met 0x7E (List.replicate 60 0) ⟨0x20, .kindPending⟩ (linked .idle 0x20 .kindPending) ∧
      met 0xFF [] ⟨0x20, .kindPending⟩ (linked .idle 0x20 .kindPending)) ∧
    (let met (code : Byte) (len : Nat) (payload : List Byte) (t : LinkTxn) (s : State) : Prop := s.takesCommands ∧ s.svc.link
        = some t ∧ t.phase = .kindPending ∧ showedIdle t.status = true ∧ payload.length ≤ 60 ∧ (code, len) ∈ ([(0x01, 0), (0x10,
        22), (0x11, 1), (0x12, 1), (0x13, 2), (0x20, 1), (0x21, 2), (0x22, 1), (0x30, 1), (0x31, 1), (0x40, 6), (0x50, 6),
        (0x51, 0), (0x52, 0), (0x60, 0), (0x70, 5), (0x7F, 1)] : List (Byte × Nat)) ∧ payload.length ≠ len
     met 0x01 0 [0] ⟨0x20, .kindPending⟩ (linked .idle 0x20 .kindPending) ∧
      met 0x10 22 (List.replicate 21 0) ⟨0x20, .kindPending⟩ (linked .idle 0x20 .kindPending) ∧
      met 0x60 0 (List.replicate 60 0) ⟨0x20, .kindPending⟩ (linked .idle 0x20 .kindPending) ∧
      met 0x7F 1 [] ⟨0x20, .kindPending⟩ (linked .idle 0x20 .kindPending)) ∧
    (let met (code b i k w d : Byte) (h : Half) (a : Word) (payload : List Byte) (t : LinkTxn) (s : State) : Prop :=
        s.takesCommands ∧ s.svc.link = some t ∧ t.phase = .kindPending ∧ showedIdle t.status = true ∧ ((code = 0x31 ∧ payload =
        [b] ∧ b ∉ ([0x00, 0x01, 0x02] : List Byte)) ∨ (code = 0x13 ∧ payload = [i, b] ∧ b ∉ ([0x01, 0x02] : List Byte)) ∨ (code
        = 0x21 ∧ payload = [i, b] ∧ b ∉ ([0x01, 0x02, 0x03] : List Byte)) ∨ (code = 0x70 ∧ payload = be32 a ++ [b] ∧ b ∉ ([0x01,
        0x02] : List Byte)) ∨ (code = 0x7F ∧ payload = [b] ∧ b ∉ ([0x01, 0x02] : List Byte)) ∨ (code = 0x50 ∧ payload = b ::
        be16 h ++ [k, w, d] ∧ 16 ≤ b.toNat))
     met 0x31 3 0 0 0 0 0 0 [3] ⟨0x20, .kindPending⟩ (linked .idle 0x20 .kindPending) ∧
      met 0x13 0 0 0 0 0 0 0 [0, 0] ⟨0x20, .kindPending⟩ (linked .idle 0x20 .kindPending) ∧
      met 0x21 4 0 0 0 0 0 0 [0, 4] ⟨0x20, .kindPending⟩ (linked .idle 0x20 .kindPending) ∧
      met 0x70 3 0 0 0 0 0 0 [0, 0, 0, 0, 3] ⟨0x20, .kindPending⟩ (linked .idle 0x20 .kindPending) ∧
      met 0x7F 0 0 0 0 0 0 0 [0] ⟨0x20, .kindPending⟩ (linked .idle 0x20 .kindPending) ∧
      met 0x50 16 0 0 0 0 0 0 [16, 0, 0, 0, 0, 0] ⟨0x20, .kindPending⟩ (linked .idle 0x20 .kindPending) ∧
      met 0x50 0xFF 0 0 0 0 0 0 [0xFF, 0, 0, 0, 0, 0] ⟨0x20, .kindPending⟩ (linked .idle 0x20 .kindPending)) ∧
    (∃ (t : LinkTxn) (s : State), s.takesCommands ∧ s.svc.link = some t ∧ t.phase = .kindPending ∧ showedIdle t.status = true) ∧
    (let met (kind : Byte) (rest received : List Byte) (t : LinkTxn) (s : State) : Prop := s.settled ∧ s.pins.ssn = true ∧
        s.svc.link = some t ∧ t.phase = .kindPending ∧ (received = [] ∨ (received = kind :: rest ∧ kind ≠ 0xC1 ∧ kind ≠ 0xC2))
     met 0 [] [] ⟨0x20, .kindPending⟩ (linked .idle 0x20 .kindPending) ∧
      met 0xC0 [1] [0xC0, 1] ⟨0x20, .kindPending⟩ (linked .idle 0x20 .kindPending) ∧
      met 0xC3 [] [0xC3] ⟨0xA1, .kindPending⟩ (linked (.ready 0 .ok []) 0xA1 .kindPending)) ∧
    (∃ (t : LinkTxn) (s : State), s.settled ∧ s.pins.ssn = true ∧ s.svc.link = some t ∧ t.phase = .kindPending ∧ showedIdle
        t.status = false) ∧
    (∃ (received : List Byte) (f : RequestFrame) (t : LinkTxn) (s u : State), s.settled ∧ s.pins.ssn = true ∧ s.svc.link =
        some t ∧ t.phase = .kindPending ∧ parseFrame received = some f ∧ exec (.requestFrameDecided received) s = .next u) ∧
    (∃ (t : LinkTxn) (s u : State), s.settled ∧ s.pins.ssn = true ∧ s.svc.link = some t ∧ t.phase = .kindPending ∧ exec
        .collect s = .next u) :=
  ⟨⟨[0xC1, 0x05, 0x01, 0x00, 0x00], ⟨5, 1, [], false⟩, ⟨0x20, .kindPending⟩, linked .idle 0x20 .kindPending,
       ⟨by decide, rfl, rfl, rfl, by decide +kernel, rfl⟩⟩,
   ⟨by decide, by decide⟩,
   ⟨requestFrame 1 1 [], ⟨1, 1, [], true⟩, ⟨0xA1, .kindPending⟩, linked (.ready 0 .ok []) 0xA1 .kindPending,
       ⟨by decide, rfl, rfl, rfl, by decide +kernel⟩⟩,
   ⟨⟨0xA1, .kindPending⟩, linked (.ready 0 .ok []) 0xA1 .kindPending, by decide⟩,
   ⟨.ident 1, linked (.ready 0 .ok []) 0xA1 .kindPending, by decide⟩,
   ⟨State.reset, by decide⟩,
   ⟨by decide, by decide, by decide⟩,
   ⟨by decide, by decide, by decide, by decide⟩,
   ⟨by decide, by decide, by decide, by decide, by decide, by decide, by decide⟩,
   ⟨⟨0x20, .kindPending⟩, linked .idle 0x20 .kindPending, by decide⟩,
   ⟨by decide, by decide, by decide⟩,
   ⟨⟨0xA1, .kindPending⟩, linked (.ready 0 .ok []) 0xA1 .kindPending, by decide⟩,
   ⟨requestFrame 1 1 [], ⟨1, 1, [], true⟩, ⟨0x20, .kindPending⟩, linked .idle 0x20 .kindPending, _,
       ⟨by decide, rfl, rfl, rfl, by decide +kernel, rfl⟩⟩,
   ⟨⟨0x20, .kindPending⟩, linked .idle 0x20 .kindPending, _, ⟨by decide, rfl, rfl, rfl, rfl⟩⟩⟩

theorem test_hypotheses_CollectDecidesItsResponse :
    (∃ (t : LinkTxn) (s : State), s.settled ∧ s.svc.link = some t ∧ t.phase = .kindPending ∧ s.svc.slot = .idle) ∧
    (∃ (tag code : Byte) (payload : List Byte) (t : LinkTxn) (s : State), s.settled ∧ s.svc.link = some t ∧ t.phase =
        .kindPending ∧ s.svc.slot = .working tag code payload) ∧
    (∃ (tag : Byte) (r : Result) (payload body : List Byte) (t : LinkTxn) (s : State), s.settled ∧ s.svc.link = some t ∧
        t.phase = .kindPending ∧ s.svc.slot = .ready tag r payload ∧ body = [0x82, tag, r.code, BitVec.ofNat 8 payload.length]
        ++ payload) ∧
    (∃ (st : Byte) (frame : List Byte) (whole : Bool) (c : Instr) (s t : State), s.pins.resetn = false ∧ s.pins.ssn = true ∧
        s.svc.link = some ⟨st, .collecting frame whole⟩ ∧ (∀ received bits, c ≠ .ssnRises received bits) ∧ c ≠ .powerOnReset ∧
        exec c s = .next t) :=
  ⟨⟨⟨0x20, .kindPending⟩, linked .idle 0x20 .kindPending, by decide⟩,
   ⟨1, 0x7F, [], ⟨0x20, .kindPending⟩, linked (.working 1 0x7F []) 0x20 .kindPending, by decide⟩,
   ⟨1, .ok, [0x07], [0x82, 1, 1, 1, 7], ⟨0x20, .kindPending⟩, linked (.ready 1 .ok [0x07]) 0x20 .kindPending, by decide⟩,
   ⟨0x20, [0x80], false, .grant, linked .idle 0x20 (.collecting [0x80] false), _, ⟨rfl, rfl, rfl, nofun, nofun, rfl⟩⟩⟩

theorem test_hypotheses_CollectEndsReady :
    (∃ (st : Byte) (frame : List Byte) (whole : Bool) (received : List Byte) (s : State), s.settled ∧ s.pins.ssn = true ∧
        s.svc.link = some ⟨st, .collecting frame whole⟩ ∧ whole = true ∧ frame.length + 1 ≤ received.length) ∧
    (let met (st : Byte) (frame : List Byte) (whole : Bool) (received : List Byte) (s : State) : Prop := s.settled ∧
        s.pins.ssn = true ∧ s.svc.link = some ⟨st, .collecting frame whole⟩ ∧ (whole = false ∨ received.length < frame.length +
        1)
     met 0x20 [0x82, 0] true [1, 2] (linked (.ready 0 .ok []) 0x20 (.collecting [0x82, 0] true)) ∧
      met 0x20 [0x80] false [1, 2] (linked .idle 0x20 (.collecting [0x80] false))) :=
  ⟨⟨0x20, [0x82, 0], true, [1, 2, 3], linked (.ready 0 .ok []) 0x20 (.collecting [0x82, 0] true), by decide⟩,
   ⟨by decide, by decide⟩⟩

theorem test_hypotheses_IdentLimitsAndCounters :
    (∃ (s : State), s.takesCommands) ∧
    (∃ (s : State), s.takesCommands) ∧
    (∃ (s : State), s.takesCommands) ∧
    (∃ (code : Byte) (payload : List Byte) (t : LinkTxn) (s : State), s.takesCommands ∧ s.svc.link = some t ∧ t.phase =
        .kindPending ∧ showedIdle t.status = true ∧ (code = 0x01 ∨ code = 0x51 ∨ code = 0x52) ∧ payload ≠ [] ∧ payload.length ≤
        60) :=
  ⟨⟨State.reset, by decide⟩,
   ⟨State.reset, by decide⟩,
   ⟨State.reset, by decide⟩,
   ⟨0x52, List.replicate 60 0, ⟨0x20, .kindPending⟩, linked .idle 0x20 .kindPending, by decide⟩⟩

theorem test_hypotheses_LimitsSet :
    (let met (tag : Byte) (hold : Option Half) (timeout watermark idle : Option Byte) (c : Instr) (s : State) : Prop :=
        s.takesCommands ∧ limitsRow tag hold timeout watermark idle = some c ∧ (timeout.all (fun t => decide (1 ≤ t.toNat)) &&
        watermark.all (fun w => decide (1 ≤ w.toNat ∧ w.toNat ≤ 64)) && idle.all (fun i => decide (1 ≤ i.toNat))) = true
     met 0 (some 65535) (some 255) (some 64) (some 255) (.limitsSetWriteHoldLimit 0 65535 (some 255) (some 64) (some 255))
          State.reset ∧
      met 0 none (some 1) (some 1) (some 1) (.limitsSetMemoryAccessTimeout 0 1 (some 1) (some 1)) State.reset) ∧
    (let met (tag : Byte) (hold : Option Half) (timeout watermark idle : Option Byte) (c : Instr) (s : State) : Prop :=
        s.takesCommands ∧ limitsRow tag hold timeout watermark idle = some c ∧ (timeout.all (fun t => decide (1 ≤ t.toNat)) &&
        watermark.all (fun w => decide (1 ≤ w.toNat ∧ w.toNat ≤ 64)) && idle.all (fun i => decide (1 ≤ i.toNat))) = false
     met 0 none none (some 65) none (.limitsSetWatermark 0 65 none) State.reset ∧
      met 0 none none none (some 0) (.limitsSetIdleTime 0 0) State.reset) :=
  ⟨⟨by decide, by decide⟩,
   ⟨by decide, by decide⟩⟩

theorem test_hypotheses_TimerSet :
    (∃ (mode : Option Byte) (period : Option Half) (qa qb : Option Byte) (e : EpochUnit) (s : State), s.takesCommands ∧ (mode.all (fun m => decide (m.toNat ≤ 2)) && period.all (fun p => decide (2 ≤ p.toNat)) && qa.all (fun q => decide (q.toNat ≤ 15)) && qb.all (fun q => decide (q.toNat ≤ 15))) = true ∧ e = { s.epoch with
            lineA := { s.epoch.lineA with time := qa.getD s.epoch.lineA.time }
            lineB := { s.epoch.lineB with time := qb.getD s.epoch.lineB.time }
            mode := match mode with
              | some m => if m = 0x00 then .off else if m = 0x01 then .free else .syncA
              | none => s.epoch.mode
            active := match mode, period with
              | some _, some p => p
              | some _, none => s.epoch.pending.getD s.epoch.active
              | none, some p => if s.epoch.mode = .off then p else s.epoch.active
              | none, none => s.epoch.active
            pending := match mode, period with
              | some _, _ => none
              | none, some p => if s.epoch.mode = .off then none else some p
              | none, none => s.epoch.pending
            count := if mode.isSome then 0 else s.epoch.count }) ∧
    (let met (mode : Option Byte) (period : Option Half) (qa qb : Option Byte) (s : State) : Prop := s.takesCommands ∧
        (mode.all (fun m => decide (m.toNat ≤ 2)) && period.all (fun p => decide (2 ≤ p.toNat)) && qa.all (fun q => decide
        (q.toNat ≤ 15)) && qb.all (fun q => decide (q.toNat ≤ 15))) = false
     met (some 3) none none none State.reset ∧
      met none (some 1) none none State.reset ∧
      met none none (some 16) none State.reset) :=
  ⟨⟨some 2, some 2, some 15, some 0, _, State.reset, ⟨by decide, by decide, rfl⟩⟩,
   ⟨by decide, by decide, by decide⟩⟩

theorem test_hypotheses_WindowReadBatchListUndoRead :
    (∃ (index : Byte) (s : State), s.takesCommands ∧ 16 ≤ index.toNat) ∧
    (∃ (index : Byte) (i : WIdx) (s : State), s.takesCommands ∧ index.toNat = i.val ∧ (s.win i).place = .free) ∧
    (let met (index : Byte) (i : WIdx) (d : Descriptor) (s : State) : Prop := s.takesCommands ∧ index.toNat = i.val ∧ ((s.win
        i).place = .active d ∨ (s.win i).place = .faulted d)
     met 15 15 (descriptor fields .readWrite .readOnly) (heldAt fields none []) ∧
      met 15 15 (descriptor fields .readWrite .readOnly) haltedEngine) ∧
    (let met (index : Byte) (i : WIdx) (d : Descriptor) (s : State) : Prop := s.takesCommands ∧ index.toNat = i.val ∧ ((s.win
        i).place = .active d ∨ (s.win i).place = .faulted d)
     met 15 15 (descriptor fields .readWrite .readOnly) (heldAt fields (some (.spoiled 1 .batchLimit)) [batch .queued 2]) ∧
      met 1 1 (passDescriptor .readOnly) (passAt .readOnly)) ∧
    (∃ (start : Byte) (s : State), s.takesCommands ∧ 64 ≤ start.toNat) ∧
    (∃ (start : Byte) (s : State), s.takesCommands ∧ start.toNat < 64 ∧ s.engine.state ≠ .halted) ∧
    (∃ (start : Byte) (c : FaultContext) (s : State), s.takesCommands ∧ start.toNat < 64 ∧ s.engine.state = .halted ∧
        s.engine.context = some c) :=
  ⟨⟨16, State.reset, by decide⟩,
   ⟨15, 15, State.reset, by decide⟩,
   ⟨by decide, by decide⟩,
   ⟨by decide, by decide⟩,
   ⟨64, State.reset, by decide⟩,
   ⟨63, State.reset, by decide⟩,
   ⟨63, context, haltedEngine, by decide⟩⟩

theorem test_hypotheses_WindowSet :
    (∃ (a : WindowSetArgs) (s : State), s.takesCommands ∧ 16 ≤ a.index.toNat) ∧
    (∃ (a : WindowSetArgs) (i : WIdx) (s : State), s.takesCommands ∧ a.index.toNat = i.val ∧ (s.win i).place ≠ .free) ∧
    (let met (a : WindowSetArgs) (i : WIdx) (s : State) : Prop := s.takesCommands ∧ a.index.toNat = i.val ∧ (s.win i).place =
        .free ∧ setDescriptor a = none
     met (windowArgs 15 0x1001 1) 15 State.reset ∧
      met (windowArgs 15 0xFFFFFFC0 2) 15 State.reset) ∧
    (∃ (a : WindowSetArgs) (i j : WIdx) (d : Descriptor) (s : State), s.takesCommands ∧ a.index.toNat = i.val ∧ (s.win
        i).place = .free ∧ setDescriptor a = some d ∧ (s.win j).place.clashes d = true ∧ (∀ k : WIdx, k < j → (s.win
        k).place.clashes d = false)) ∧
    (∃ (a : WindowSetArgs) (i : WIdx) (d : Descriptor) (s : State), s.takesCommands ∧ a.index.toNat = i.val ∧ (s.win i).place
        = .free ∧ setDescriptor a = some d ∧ (∀ k : WIdx, (s.win k).place.clashes d = false) ∧ (d.cls ≠ .pass ∧ (writeUnder d
        s.arb.cp = true ∨ writeUnder d s.arb.up = true))) ∧
    (let met (a : WindowSetArgs) (i : WIdx) (d : Descriptor) (s : State) : Prop := s.takesCommands ∧ a.index.toNat = i.val ∧
        (s.win i).place = .free ∧ setDescriptor a = some d ∧ (∀ k : WIdx, (s.win k).place.clashes d = false) ∧ (d.cls = .pass ∨
        (writeUnder d s.arb.cp = false ∧ writeUnder d s.arb.up = false))
     met (windowArgs 15 0x1000 1) 15 (descriptor fields .readWrite .readOnly) State.reset ∧
      met (windowArgs 15 0x1000 1) 15 (descriptor fields .readWrite .readOnly)
          { State.reset with arb := { State.reset.arb with cp := some (.write 0x1040 (.one 7)) } }) ∧
    (∃ (a : WindowSetArgs) (d : Descriptor), setDescriptor a = some d) :=
  ⟨⟨windowArgs 16 0x1000 1, State.reset, by decide⟩,
   ⟨windowArgs 15 0x1000 1, 15, heldAt fields none [], by decide⟩,
   ⟨by decide, by decide⟩,
   ⟨windowArgs 3 0x1000 1, 3, 15, descriptor fields .readWrite .readOnly, heldAt fields none [], by decide⟩,
   ⟨windowArgs 15 0x1000 1, 15, descriptor fields .readWrite .readOnly,
       { State.reset with arb := { State.reset.arb with cp := some (.write 0x103F (.one 7)) } }, by decide⟩,
   ⟨by decide, by decide⟩,
   ⟨windowArgs 15 0x1000 1, descriptor fields .readWrite .readOnly, by decide⟩⟩

theorem test_hypotheses_WindowDrop :
    (∃ (index : Byte) (s : State), s.takesCommands ∧ 16 ≤ index.toNat) ∧
    (∃ (index : Byte) (i : WIdx) (s : State), s.takesCommands ∧ index.toNat = i.val ∧ (s.win i).place = .free) ∧
    (∃ (index : Byte) (i : WIdx) (d : Descriptor) (s : State), s.takesCommands ∧ index.toNat = i.val ∧ (s.win i).place =
        .faulted d) ∧
    (∃ (index : Byte) (i : WIdx) (d : Descriptor) (s : State), s.takesCommands ∧ index.toNat = i.val ∧ (s.win i).place =
        .active d ∧ (s.win i).waiting.any (fun b => b.state != .closed) = true) ∧
    (∃ (index : Byte) (i : WIdx) (d : Descriptor) (s : State), s.takesCommands ∧ index.toNat = i.val ∧ (s.win i).place =
        .active d ∧ (s.win i).waiting.all (fun b => b.state == .closed) = true) :=
  ⟨⟨16, State.reset, by decide⟩,
   ⟨15, 15, State.reset, by decide⟩,
   ⟨15, 15, descriptor fields .readWrite .readOnly, haltedEngine, by decide⟩,
   ⟨15, 15, descriptor fields .readWrite .readOnly, heldAt fields none [batch .queued 2], by decide⟩,
   ⟨15, 15, descriptor fields .readWrite .readOnly, heldAt fields (some (.gathering 1 [])) (fill 4), by decide⟩⟩

theorem test_hypotheses_WindowClear :
    (∃ (index : Byte) (s : State), s.takesCommands ∧ 16 ≤ index.toNat) ∧
    (∃ (index : Byte) (i : WIdx) (s : State), s.takesCommands ∧ index.toNat = i.val ∧ (s.win i).place = .free) ∧
    (∃ (index : Byte) (i : WIdx) (d : Descriptor) (s : State), s.takesCommands ∧ index.toNat = i.val ∧ (s.win i).place =
        .active d) ∧
    (∃ (index : Byte) (i : WIdx) (d : Descriptor) (us : List UndoRecord) (r : UndoRecord) (s : State), s.takesCommands ∧
        index.toNat = i.val ∧ (s.win i).place = .faulted d ∧ s.engine.undo = us ++ [r]) ∧
    (∃ (index : Byte) (i : WIdx) (d : Descriptor) (s : State), s.takesCommands ∧ index.toNat = i.val ∧ (s.win i).place =
        .faulted d ∧ (s.win i).waiting.all (fun b => b.state == .closed) = true) :=
  ⟨⟨16, State.reset, by decide⟩,
   ⟨15, 15, State.reset, by decide⟩,
   ⟨15, 15, descriptor fields .readWrite .readOnly, heldAt fields none [], by decide⟩,
   ⟨15, 15, descriptor fields .readWrite .readOnly, [], undoRecord 0x1000, haltedEngine, by decide⟩,
   ⟨15, 15, descriptor fields .readWrite .readOnly, haltedEngine, by decide⟩⟩

theorem test_hypotheses_BatchCloseAndChecks :
    (∃ (index : Byte) (i : WIdx) (h : HeldFields) (s : State), s.takesCommands ∧ index.toNat = i.val ∧ (s.win
        i).place.activeHeld = some h ∧ (s.win i).openBatch = none) ∧
    (∃ (index : Byte) (i : WIdx) (h : HeldFields) (id : Half) (es : List Entry) (s : State), s.takesCommands ∧ index.toNat =
        i.val ∧ (s.win i).place.activeHeld = some h ∧ (s.win i).openBatch = some (.gathering id es) ∧ es = []) ∧
    (∃ (index : Byte) (i : WIdx) (h : HeldFields) (id : Half) (cause : SpoilCause) (s : State), s.takesCommands ∧ index.toNat
        = i.val ∧ (s.win i).place.activeHeld = some h ∧ (s.win i).openBatch = some (.spoiled id cause)) ∧
    (∃ (index : Byte) (i : WIdx) (h : HeldFields) (id : Half) (es : List Entry) (s : State), s.takesCommands ∧ index.toNat =
        i.val ∧ (s.win i).place.activeHeld = some h ∧ (s.win i).openBatch = some (.gathering id es) ∧ es ≠ [] ∧ 4 ≤ (s.win
        i).waiting.length) ∧
    (∃ (index : Byte) (i : WIdx) (h : HeldFields) (id : Half) (es : List Entry) (s : State), s.takesCommands ∧ index.toNat =
        i.val ∧ (s.win i).place.activeHeld = some h ∧ (s.win i).openBatch = some (.gathering id es) ∧ es ≠ [] ∧ (s.win
        i).waiting.length < 4) ∧
    (∃ (index : Byte) (s : State), s.takesCommands ∧ 16 ≤ index.toNat) ∧
    (∃ (index : Byte) (i : WIdx) (s : State), s.takesCommands ∧ index.toNat = i.val ∧ (s.win i).place = .free) ∧
    (∃ (index : Byte) (i : WIdx) (d : Descriptor) (s : State), s.takesCommands ∧ index.toNat = i.val ∧ ((s.win i).place =
        .active d ∨ (s.win i).place = .faulted d) ∧ d.cls = .pass) ∧
    (∃ (index : Byte) (i : WIdx) (d : Descriptor) (s : State), s.takesCommands ∧ index.toNat = i.val ∧ (s.win i).place =
        .faulted d ∧ d.cls ≠ .pass) :=
  ⟨⟨15, 15, fields, heldAt fields none [], by decide⟩,
   ⟨15, 15, fields, 1, [], heldAt fields (some (.gathering 1 [])) [], by decide⟩,
   ⟨15, 15, fields, 1, .storeFull, heldAt fields (some (.spoiled 1 .storeFull)) [], by decide⟩,
   ⟨15, 15, fields, 1, entries 2, heldAt fields (some (.gathering 1 (entries 2))) (fill 4), by decide⟩,
   ⟨15, 15, fields, 1, entries 2, heldAt fields (some (.gathering 1 (entries 2))) (fill 3), by decide⟩,
   ⟨16, State.reset, by decide⟩,
   ⟨15, 15, State.reset, by decide⟩,
   ⟨1, 1, passDescriptor .readOnly, passAt .readOnly, by decide⟩,
   ⟨15, 15, descriptor fields .readWrite .readOnly, haltedEngine, by decide⟩⟩

theorem test_hypotheses_BatchDiscard :
    (∃ (index : Byte) (i : WIdx) (h : HeldFields) (s : State), s.takesCommands ∧ index.toNat = i.val ∧ (s.win
        i).place.activeHeld = some h ∧ (s.win i).openBatch = none) ∧
    (∃ (index : Byte) (i : WIdx) (h : HeldFields) (b : OpenBatch) (s : State), s.takesCommands ∧ index.toNat = i.val ∧ (s.win
        i).place.activeHeld = some h ∧ (s.win i).openBatch = some b) ∧
    (∃ (index : Byte) (i : WIdx) (h : HeldFields) (s : State), s.takesCommands ∧ index.toNat = i.val ∧ (s.win
        i).place.activeHeld = some h ∧ (s.win i).waiting.all (fun b => b.state != .closed) = true) ∧
    (∃ (index : Byte) (i : WIdx) (h : HeldFields) (cs : List WaitBatch) (s : State), s.takesCommands ∧ index.toNat = i.val ∧
        (s.win i).place.activeHeld = some h ∧ cs = (s.win i).waiting.filter (fun b => b.state == .closed) ∧ cs ≠ []) ∧
    (let met (index : Byte) (i : WIdx) (h : HeldFields) (s : State) : Prop := s.takesCommands ∧ index.toNat = i.val ∧ (s.win
        i).place.activeHeld = some h ∧ (s.win i).waiting.head?.all (fun b => b.state == .closed) = true
     met 15 15 fields (heldAt fields none []) ∧
      met 15 15 fields (heldAt fields none (fill 4))) ∧
    (∃ (index : Byte) (i : WIdx) (h : HeldFields) (b : WaitBatch) (ws : List WaitBatch) (s : State), s.takesCommands ∧
        index.toNat = i.val ∧ (s.win i).place.activeHeld = some h ∧ (s.win i).waiting = b :: ws ∧ (b.state = .committing ∨
        b.state = .rollingBack)) ∧
    (∃ (index : Byte) (i : WIdx) (h : HeldFields) (b : WaitBatch) (ws : List WaitBatch) (s : State), s.takesCommands ∧
        index.toNat = i.val ∧ (s.win i).place.activeHeld = some h ∧ (s.win i).waiting = b :: ws ∧ b.state = .queued) :=
  ⟨⟨15, 15, fields, heldAt fields none [], by decide⟩,
   ⟨15, 15, fields, .gathering 1 (entries 2), heldAt fields (some (.gathering 1 (entries 2))) [], by decide⟩,
   ⟨15, 15, fields, heldAt fields none [batch .queued 2], by decide⟩,
   ⟨15, 15, fields, fill 4, heldAt fields none (fill 4), by decide⟩,
   ⟨by decide, by decide⟩,
   ⟨15, 15, fields, batch .committing 2, [], heldAt fields none [batch .committing 2], by decide⟩,
   ⟨15, 15, fields, batch .queued 2, [], heldAt fields none [batch .queued 2], by decide⟩⟩

theorem test_hypotheses_GateCommands :
    (∃ (s : State), s.takesCommands) ∧
    (∃ (s : State), s.takesCommands) ∧
    (∃ (s : State), s.takesCommands) ∧
    (let met (h : BatchInHand) (b : WaitBatch) (older newer : List WaitBatch) (s : State) : Prop := s.engine.inHand = some h ∧
        (s.win h.window).waiting = older ++ b :: newer ∧ (b.state = .committing ∨ b.state = .rollingBack) ∧ older.all (fun c =>
        c.state != .committing && c.state != .rollingBack) = true
     met ⟨15, 7, 1⟩ (batch .committing 2) [] [] (commitAt 1 .writeNew) ∧
      met ⟨15, 7, 1⟩ (batch .rollingBack 2) [] [] (rollbackOf 1 true [])) ∧
    (∃ (s : State), s.engine.inHand = none) ∧
    (∃ (h : BatchInHand) (s : State), s.engine.inHand = some h ∧ (s.win h.window).waiting.all (fun c => c.state != .committing
        && c.state != .rollingBack) = true) :=
  ⟨⟨queuedCommit, by decide⟩,
   ⟨commitAt 1 .writeNew, by decide⟩,
   ⟨haltedEngine, by decide⟩,
   ⟨by decide, by decide⟩,
   ⟨State.reset, by decide⟩,
   ⟨⟨15, 7, 0⟩, { State.reset with engine := { State.reset.engine with inHand := some ⟨15, 7, 0⟩ } }, by decide⟩⟩

theorem test_hypotheses_AttnLawKept :
    (∃ (s t : State), s.attnLaw ∧ step s = .next t) :=
  ⟨State.reset, _, ⟨by decide, rfl⟩⟩

theorem test_hypotheses_ReportQueueLawKept :
    (∃ (s t : State), s.rep.law ∧ step s = .next t) :=
  ⟨reports 64, _, ⟨by decide, rfl⟩⟩

theorem test_hypotheses_SettingsAndLinesLawKept :
    (∃ (s t : State), s.rangeLaw ∧ step s = .next t) ∧
    (∃ (s t : State), s.lineLaw ∧ step s = .next t) :=
  ⟨⟨State.reset, _, ⟨by decide, rfl⟩⟩,
   ⟨linked .idle 0x20 .kindPending, _, ⟨by decide, rfl⟩⟩⟩

theorem test_hypotheses_WindowAndStagingLawsKept :
    (∃ (s t : State), s.windowLaw ∧ step s = .next t) ∧
    (∃ (s t : State), s.batchLaw ∧ step s = .next t) ∧
    (∃ (s t : State), s.capacityLaw ∧ step s = .next t) ∧
    (∃ (a : Word) (i j : WIdx) (s : State), s.windowLaw ∧ (s.win i).place.hits a = true ∧ (s.win j).place.hits a = true) ∧
    (let met (a : Word) (i : WIdx) (s : State) : Prop := s.windowLaw ∧ (s.win i).place.hits a = true
     met 0x1000 15 (heldAt fields (some (.gathering 1 (entries 2))) (fill 4)) ∧
      met 0x103F 15 haltedEngine ∧
      met 0x203F 1 (passAt .readOnly)) ∧
    (let met (a : Word) (s : State) : Prop := (∀ i : WIdx, (s.win i).place.hits a = false)
     met 0x0FFF (heldAt fields (some (.gathering 1 (entries 2))) (fill 4)) ∧
      met 0x1040 (heldAt fields (some (.gathering 1 (entries 2))) (fill 4))) :=
  ⟨⟨heldAt fields (some (.gathering 1 (entries 2))) (fill 4), _, ⟨by decide, rfl⟩⟩,
   ⟨heldAt fields (some (.gathering 1 (entries 2))) (fill 4), _, ⟨by decide, rfl⟩⟩,
   ⟨fillTo 256 (heldAt fields none []), _, ⟨by decide, rfl⟩⟩,
   ⟨0x1000, 15, 15, heldAt fields (some (.gathering 1 (entries 2))) (fill 4), by decide⟩,
   ⟨by decide, by decide, by decide⟩,
   ⟨by decide, by decide⟩⟩

theorem test_hypotheses_DeviceLawKept :
    (∃ (s t : State), s.deviceLaw ∧ step s = .next t) :=
  ⟨commitAt 1 .writeNew, _, ⟨deviceLaw_commitAt, rfl⟩⟩

theorem test_hypotheses_HaltedExactlyWhenFaulted :
    (∃ (s : State), s.deviceLaw) :=
  ⟨haltedEngine, deviceLaw_haltedEngine⟩

/-! ### Single steps, with the values that the spec's rules and examples give -/

theorem test_crc8_of_the_ident_request : requestFrame 0x01 0x01 [] = [0xC1, 0x01, 0x01, 0x00, 0x13] := by decide +kernel

theorem test_bytes_of_the_example_batch_done_record :
    Record.bytes ⟨0x0012, 0x000186A0, .batchDone 2 7 3 (some ⟨.lineA, 5⟩)⟩ =
      [0x02, 0x0F, 0x00, 0x12, 0x00, 0x01, 0x86, 0xA0, 0x02, 0x00, 0x07, 0x03, 0x01, 0x00, 0x05] := by decide

theorem test_windowSet_installs :
    ((after (.windowSet 9 (windowArgs 15 0x1000 1)) State.reset).win 15).place = .active (descriptor fields .readWrite .readOnly) := by
  decide

theorem test_windowSet_answers_overlap_with_the_lowest_window :
    (after (.windowSet 9 (windowArgs 3 0x1000 1)) (heldAt fields none [])).svc.slot = .ready 9 .overlap [0x0F] := by decide

theorem test_first_write_opens_a_batch :
    ((after (.updateTransactionTaken (.write 0x1002 (.two 7 8))) (heldAt fields none [])).win 15).openBatch =
      some (.gathering 0 [⟨0x1000, ⟨none, none, some 7, some 8⟩⟩]) := by decide

theorem test_closing_write_queues_at_once :
    (after (.updateTransactionTaken (.write 0x1000 (.one 7))) (heldAt (closingOn 0x1000) none [])).engine.queue = [(15, 0)] := by
  decide

theorem test_write_at_the_full_store_is_held :
    (after (.updateTransactionTaken (.write 0x1004 (.one 7))) (fillTo 256 (heldAt fields none []))).upd.state =
      .held (heldWrite fields) .stagingEntry ⟨2000, 0⟩ := by decide

theorem test_hold_expiry_spoils :
    ((after .writeHoldExpired (holding fields .stagingEntry (fillTo 256 (heldAt fields none [])))).win 15).openBatch =
      some (.spoiled 0 .holdExpired) := by decide

theorem test_held_write_goes_on_after_a_freeing :
    (after .heldWriteReconsidered (holding fields .stagingEntry (fillTo 255 (heldAt fields none [])))).upd.answer =
      some (.done []) := by decide

theorem test_update_read_is_forwarded :
    (after (.updateTransactionTaken (.read 0x1002 .two)) (heldAt fields none (fill 1))).upd.answer = some (.done [3, 4]) := by decide

theorem test_waiting_requests_are_taken_before_the_next_event :
    (after .collect twoWaitAtHeld).upd = ⟨.idle, some (.done []), []⟩ ∧
      openEntries ((after .collect twoWaitAtHeld).win 15).openBatch = [⟨0x1000, ⟨some 9, none, none, none⟩⟩] := by decide

theorem test_misaligned_write_of_a_closing_word_is_recorded :
    (after (.updateTransactionTaken (.write 0x1002 (.four 1 2 3 4))) (heldAt (closingOn 0x1000) none [])).rep.queue =
      [⟨0, 0, .misaligned .update 0x1002 .write⟩] := by decide

theorem test_cycle_read_of_the_window_in_hand_is_held :
    (after (.cycleTransactionTaken (.read 0x1000 .four)) (commitAt 0 .readOld)).cyc.state = .held heldRead := by decide

theorem test_cycle_write_of_a_held_window_is_refused :
    (after (.cycleTransactionTaken (.write 0x1000 (.one 7))) (heldAt fields none [])).rep.queue =
      [⟨0, 0, .accessDenied .cycle 0x1000 .write 15 .heldWrite⟩] := by decide

theorem test_timer_epoch_closes_and_queues :
    ((after .periodEnd { heldAt fields (some (.gathering 7 (entries 2))) [] with epoch := (timerIn .free).epoch }).win 15).waiting =
      [⟨7, entries 2, .queued, .epoch, some ⟨.timer, 1⟩⟩] := by decide

theorem test_flywheel_epoch_is_counted_and_recorded :
    (after .periodEnd (timerIn .syncA)).epoch.flywheel = 1 ∧
      (after .periodEnd (timerIn .syncA)).rep.queue = [⟨0, 1000, .flywheel 1⟩] := by decide

theorem test_short_pulse_gives_no_epoch :
    (after (.pulseDropped .a) (after (.qualifyStart .a) State.reset)).epoch.epochsA = 0 := by decide

theorem test_pulse_of_the_whole_qualify_time_is_accepted_at_its_fall :
    (after (.pulseDropped .a) (after (.qualifyStart .a) State.reset |>.elapse 2)).epoch.epochsA = 1 ∧
      (after (.pulseDropped .a) (after (.qualifyStart .a) State.reset |>.elapse 1)).epoch.epochsA = 0 := by decide

theorem test_accepted_pulse_gives_an_epoch :
    (after (.pulseAccepted .a) (after (.qualifyStart .a) State.reset)).epoch.epochsA = 1 := by decide

theorem test_commit_start_reads_the_first_word :
    (after .commitStart queuedCommit).arb.ce = some (.read 0x1000 .four) := by decide

theorem test_commit_end_reports_the_batch :
    (after (.memoryAnswer (.done ⟨0, 0, 0, 0⟩)) (commitAt 1 .writeNew)).rep.queue = [⟨0, 0, .batchDone 15 7 2 none⟩] := by decide

theorem test_failed_commit_access_starts_the_rollback :
    (after .accessTimeout (commitAt 1 .readOld)).arb.ce = some (.write 0x1000 (.four 0 0 0 0)) ∧
      (after .accessTimeout (commitAt 1 .readOld)).engine.context = some ⟨15, 7, 0x1004, .readOld, 0⟩ := by decide

theorem test_failed_rollback_halts :
    (after (.memoryAnswer .error) (rollbackOf 1 true [])).engine.state = .halted ∧
      ((after (.memoryAnswer .error) (rollbackOf 1 true [])).win 15).place = .faulted (descriptor fields .readWrite .readOnly) := by
  decide

theorem test_abandon_clears :
    (after (.windowClearAbandon 9 15) haltedEngine).svc.slot = .ready 9 .ok [0] ∧
      (after (.windowClearAbandon 9 15) haltedEngine).engine.state = .idle := by decide

theorem test_retry_goes_on_with_the_rollback :
    (after (.windowClearRetry 9 15) haltedEngine).arb.ce = some (.write 0x1000 (.four 0 0 0 0)) := by decide

theorem test_streak_lets_another_requester_in :
    Arbiter.choose ⟨none, some (.read 0 .four), some (.read 4 .four), none, none, 8, 50⟩ = some (.ce, .read 4 .four, 0) := by decide

theorem test_late_answer_is_discarded : after (.lateAnswer (.done ⟨1, 2, 3, 4⟩)) State.reset = State.reset := by decide

theorem test_idle_timer_raises_attn :
    (after .idleTimerRunOut { reports 1 with pins := State.reset.pins }).rep.attn = true := by decide

theorem test_record_at_the_full_queue_is_lost :
    ((reports 64).rep.take (.flywheel 1)).lost = 1 := by decide

theorem test_reports_take_returns_three :
    (after (.reportsTake 9) (reports 64)).rep.queue.length = 61 := by decide

theorem test_link_status_byte_shows_idle : (after .linkTransactionStart State.reset).svc.link = some ⟨0x20, .kindPending⟩ := by decide

theorem test_link_bytes_come_most_significant_bit_first :
    linkBytes ([true, true, false, false, false, false, false, true] ++ [true, false]) = ([0xC1], [true, false]) := by decide

theorem test_status_byte_is_driven_most_significant_bit_first :
    (List.range 8).map (linked .idle 0x20 .kindPending).sdoBit =
      [some false, some false, some true, some false, some false, some false, some false, some false] := by decide

theorem test_unknown_code_is_answered_bad_command :
    (after (.requestFrameDecided (requestFrame 0x01 0x02 [])) (linked .idle 0x20 .kindPending)).svc.slot = .ready 0x01 .badCommand [] := by
  decide +kernel

theorem test_request_frame_runs_its_command :
    (after (.requestFrameDecided [0xC1, 0x01, 0x01, 0x00, 0x13]) (linked .idle 0x20 .kindPending)).svc.slot =
      .ready 0x01 .ok [0x0C, 0x31, 0x02, 0x16, 0x01, 16, 0x01, 0x00, 64, 4, 16, 64, 64, 60] := by decide +kernel

theorem test_wrong_crc_is_answered_bad_frame :
    (after (.requestFrameDecided [0xC1, 0x01, 0x01, 0x00, 0x12]) (linked .idle 0x20 .kindPending)).svc.slot = .ready 0x01 .badFrame [] := by
  decide +kernel

theorem test_whole_collect_frees_the_slot :
    (after (.ssnRises (List.replicate 6 0) []) (after .collect (linked (.ready 1 .empty []) 0xA1 .kindPending))).svc.slot = .idle := by
  decide +kernel

theorem test_cut_collect_keeps_the_response :
    (after (.ssnRises (List.replicate 5 0) []) (after .collect (linked (.ready 1 .empty []) 0xA1 .kindPending))).svc.slot =
      .ready 1 .empty [] := by decide +kernel

theorem test_busy_slot_drops_a_request :
    (after .requestDropped (linked (.ready 1 .empty []) 0xA1 .kindPending)).svc.dropped = 1 := by decide

theorem test_gate_hold_shows_the_commit_in_flight :
    (after (.gateHold 9) (commitAt 1 .writeNew)).svc.slot = .ready 9 .ok [0x01, 0x01, 0x00, 2, 0x01, 15, 0x00, 0x07, 2, 1, 0] := by decide

theorem test_probe_returns_memory :
    (after (.memoryAnswer (.done ⟨1, 2, 3, 4⟩)) probing).svc.slot = .ready 1 .ok [0, 0, 0, 0, 0x01, 0xFF, 0xFF, 1, 2, 3, 4, 0] := by
  decide

theorem test_limits_set_refuses_a_watermark_of_65 :
    (after (.limitsSetWatermark 9 65 none) State.reset).svc.slot = .ready 9 .badArgument [] := by decide

theorem test_timer_set_keeps_a_period_pending :
    (after (.timerSetPeriod 9 50 none none) (timerIn .free)).epoch.pending = some 50 := by decide

theorem test_update_reset_discards_batches :
    (after .urstnAsserted (heldAt fields (some (.gathering 1 (entries 2))) (fill 3))).rep.queue = [⟨0, 0, .resetDiscard .updateReset 4⟩] := by
  decide

theorem test_full_reset_completes_when_due :
    (after .fullResetComplete resetOwed).svc.slot = .ready 1 .ok [0x01, 0x00] := by decide

theorem test_discard_of_another_window_admits_a_held_write :
    (after .heldWriteReconsidered (after (.batchDiscardOpen 9 14) (holding fields .stagingEntry ((fillTo 256 (heldAt fields none [])).setWin 14
      ⟨.active ⟨0x3000, 0x40, .held fields, .readWrite, .none, .off, false⟩, .zero, some (.gathering 1 []), []⟩)))).upd.state =
        .held (heldWrite fields) .stagingEntry ⟨2000, 5⟩ ∧
    (after .heldWriteReconsidered (after (.batchDiscardOpen 9 14) (holding fields .stagingEntry ((fillTo 255 (heldAt fields none [])).setWin 14
      ⟨.active ⟨0x3000, 0x40, .held fields, .readWrite, .none, .off, false⟩, .zero, some (.gathering 1 (entries 1)), []⟩)))).upd.answer =
        some (.done []) := by decide

theorem test_power_on_reset_clears_the_windows :
    ((after .powerOnReset (heldAt fields none (fill 4))).win 15).waiting = [] := by decide

theorem test_waiting_request_survives_power_on_reset_only_if_it_cannot_be_taken :
    (after .powerOnReset twoWait).upd.waiting = [.read 4 .four] ∧
      (after .powerOnReset { twoWait with pins := { State.reset.pins with urstn := true } }).upd.waiting =
        [.read 0 .four, .read 4 .four] := by decide

theorem test_idle_queue_takes_a_due_event :
    step queuedCommit = .next (after .commitStart queuedCommit) := rfl

theorem test_no_word_spells_a_command : decodeTableWord 16 0 = none ∧ State.reset.withFetchWord 16 0 = State.reset := by decide

end Sys2Proof.Tests
end

section
/-! SUPPORT. The laws of the Window Table and the Staging Store over one step (R13, R18, R20, R24). Every operation is followed
through what it does to the sixteen windows: `Window.Tame` is a change of one window that breaks none of the laws whatever the other
windows hold, and `State.KeepsLaws` is a change of the device that keeps each law on its own. -/

namespace Sys2Proof.Machine

/-! ### Sums of numbers in a list

The package's modules are built without Mathlib, so the three facts about sums that the count of entries needs are proved here. -/

/-- The sum after one number of a list is replaced, written without subtraction. -/
theorem sum_set_add (l : List Nat) (n x : Nat) (h : n < l.length) : (l.set n x).sum + l[n] = l.sum + x := by
  induction l generalizing n with
  | nil => cases h
  | cons a l ih =>
    cases n with
    | zero => simp only [List.set_cons_zero, List.sum_cons, List.getElem_cons_zero]; omega
    | succ n =>
      have hl := ih n (Nat.lt_of_succ_lt_succ h)
      simp only [List.set_cons_succ, List.sum_cons, List.getElem_cons_succ]
      omega

theorem sum_le_sum_of_getElem_le (l m : List Nat) (hlen : l.length = m.length)
    (h : ∀ (n : Nat) (hl : n < l.length) (hm : n < m.length), l[n] ≤ m[n]) : l.sum ≤ m.sum := by
  induction l generalizing m with
  | nil => exact Nat.zero_le _
  | cons a l ih =>
    cases m with
    | nil => cases hlen
    | cons b m =>
      have hhead : a ≤ b := h 0 (Nat.zero_lt_succ _) (Nat.zero_lt_succ _)
      have htail := ih m (Nat.succ.inj hlen) fun n hl hm => h (n + 1) (Nat.succ_lt_succ hl) (Nat.succ_lt_succ hm)
      simp only [List.sum_cons]
      omega

theorem sum_map_le_of_sublist {α : Type} (f : α → Nat) {l m : List α} (h : l.Sublist m) :
    (l.map f).sum ≤ (m.map f).sum := by
  induction h with
  | slnil => exact Nat.le_refl _
  | cons a _ ih => simp only [List.map_cons, List.sum_cons]; omega
  | cons_cons a _ ih => simp only [List.map_cons, List.sum_cons]; omega

/-! ### Entries in use, window by window -/

/-- The entries in use after one window is replaced, written without subtraction. -/
theorem State.setWin_inUse (i : WIdx) (w : Window) (s : State) :
    (s.setWin i w).inUse + (s.win i).inUse = s.inUse + w.inUse := by
  have hlen : i.val < (s.windows.toList.map Window.inUse).length := by
    rw [List.length_map, Vector.length_toList]; exact i.isLt
  have hset : (s.setWin i w).inUse = ((s.windows.toList.map Window.inUse).set i.val w.inUse).sum := by
    rw [State.inUse, State.setWin_windows, Vector.toList_set, List.map_set]
  have hget : (s.windows.toList.map Window.inUse)[i.val] = (s.win i).inUse := by
    rw [List.getElem_map, Vector.getElem_toList]
    rfl
  rw [hset, ← hget]
  exact sum_set_add _ _ _ hlen

/-- No more entries are in use where no window has more. -/
theorem State.inUse_le {s t : State} (h : ∀ i, (t.win i).inUse ≤ (s.win i).inUse) : t.inUse ≤ s.inUse := by
  refine sum_le_sum_of_getElem_le _ _ ?_ fun n hl _ => ?_
  · rw [List.length_map, List.length_map, Vector.length_toList, Vector.length_toList]
  · have hn : n < 16 := by rwa [List.length_map, Vector.length_toList] at hl
    rw [List.getElem_map, List.getElem_map, Vector.getElem_toList, Vector.getElem_toList]
    exact h ⟨n, hn⟩

/-! ### Changes of one window -/

/-- A change of one window that installs no descriptor, keeps the batches well formed and takes no staging entry. -/
structure Window.Tame (w v : Window) : Prop where
  desc : ∀ d ∈ v.place.desc, d ∈ w.place.desc
  batches : w.batchLaw → v.batchLaw
  entries : v.inUse ≤ w.inUse

theorem goodEntries.of_sublist {es fs : List Entry} (h : es.Sublist fs) (hf : goodEntries fs) : goodEntries es :=
  ⟨hf.1.sublist (h.map _), fun e he => hf.2 e (h.subset he)⟩

theorem Window.Tame.refl (w : Window) : w.Tame w := ⟨fun _ h => h, id, Nat.le_refl _⟩

/-- Removing entries of the open batch and batches of the waiting list is tame: what is left stands in the same order. -/
theorem Window.Tame.of_sublist {w v : Window} (hd : ∀ d ∈ v.place.desc, d ∈ w.place.desc)
    (ho : (openEntries v.openBatch).Sublist (openEntries w.openBatch)) (hw : v.waiting.Sublist w.waiting) : w.Tame v where
  desc := hd
  batches := by
    rintro ⟨hopen, hlen, hgood, htail⟩
    exact ⟨hopen.of_sublist ho, Nat.le_trans hw.length_le hlen, fun b hb => hgood b (hw.subset hb),
      fun b hb => htail b (hw.tail.subset hb)⟩
  entries := Nat.add_le_add ho.length_le (sum_map_le_of_sublist (fun b => b.entries.length) hw)

/-- Changes of the counters alone are tame (R9). -/
theorem Window.Tame.counters (w : Window) (c : WindowCounters) : w.Tame { w with counters := c } :=
  .of_sublist (fun _ h => h) (.refl _) (.refl _)

/-- A new open batch without entries is tame (R22, R23, R26). -/
theorem Window.Tame.openBatch (w : Window) (b : Option OpenBatch) (h : openEntries b = []) :
    w.Tame { w with openBatch := b } :=
  .of_sublist (fun _ h => h) (by simp [h]) (.refl _)

/-- Taking batches out of the waiting list is tame. -/
theorem Window.Tame.waiting (w : Window) (l : List WaitBatch) (h : l.Sublist w.waiting) : w.Tame { w with waiting := l } :=
  .of_sublist (fun _ h => h) (.refl _) h

/-- A status change that leaves the descriptor, or none, is tame (R8, R15). -/
theorem Window.Tame.place (w : Window) (p : Place) (h : ∀ d ∈ p.desc, d ∈ w.place.desc) : w.Tame { w with place := p } :=
  .of_sublist h (.refl _) (.refl _)

theorem Place.toFaulted_desc (p : Place) : p.toFaulted.desc = p.desc := by cases p <;> rfl

theorem Place.toActive_desc (p : Place) : p.toActive.desc = p.desc := by cases p <;> rfl

/-- Closing a batch with entries is tame when the waiting list has room (R24, R32). -/
theorem Window.Tame.close (w : Window) (id : Half) (es : List Entry) (cause : CloseCause)
    (ho : openEntries w.openBatch = es) (hne : es ≠ []) (hroom : w.hasRoom = true) : w.Tame (w.close id es cause) where
  desc := fun _ h => h
  batches := by
    rintro ⟨hopen, -, hgood, htail⟩
    have hlen : w.waiting.length < 4 := of_decide_eq_true hroom
    refine ⟨⟨List.nodup_nil, nofun⟩, by simp [Window.close]; omega, ?_, ?_⟩
    · intro b hb
      rcases List.mem_append.1 hb with hb | hb
      · exact hgood b hb
      · obtain rfl := List.mem_singleton.1 hb
        exact ⟨ho ▸ hopen, hne, fun _ => rfl⟩
    · intro b hb
      have hb' : b ∈ w.waiting.tail ∨ b ∈ [⟨id, es, .closed, cause, none⟩] := by
        cases hw : w.waiting with
        | nil => simp [Window.close, hw] at hb
        | cons c l => simpa [Window.close, hw] using hb
      rcases hb' with hb | hb
      · exact htail b hb
      · rw [List.mem_singleton.1 hb]
  entries := by simp [Window.close, Window.inUse, openEntries, ← ho]; omega

/-- Queueing the oldest CLOSED batch is tame: the others stay CLOSED (R75). -/
theorem Window.Tame.queueOldest {w v : Window} {stamp : Option Stamp} {id : Half}
    (h : w.queueOldest stamp = some (id, v)) : w.Tame v := by
  unfold Window.queueOldest at h
  split at h
  · split at h
    · next b rest hw =>
      cases h
      refine ⟨fun _ h => h, ?_, by simp [Window.inUse, hw]⟩
      rintro ⟨hopen, hlen, hgood, htail⟩
      rw [hw] at hlen hgood htail
      refine ⟨hopen, hlen, ?_, htail⟩
      intro c hc
      rcases List.mem_cons.1 hc with rfl | hc
      · obtain ⟨hes, hne, -⟩ := hgood b (List.mem_cons_self ..)
        exact ⟨hes, hne, nofun⟩
      · exact hgood c (List.mem_cons_of_mem _ hc)
    · cases h
  · cases h

/-- Carrying batches from one state to another is tame when neither state is CLOSED (R84, R88). -/
theorem Window.Tame.restate (w : Window) (old new : BatchState) (hold : old ≠ .closed) (hnew : new ≠ .closed) :
    w.Tame (w.restate old new) where
  desc := fun _ h => h
  batches := by
    rintro ⟨hopen, hlen, hgood, htail⟩
    refine ⟨hopen, by simpa [Window.restate] using hlen, ?_, ?_⟩
    · intro c hc
      obtain ⟨b, hb, rfl⟩ := List.mem_map.1 hc
      split
      · exact ⟨(hgood b hb).1, (hgood b hb).2.1, fun h => absurd h hnew⟩
      · exact hgood b hb
    · intro c hc
      rw [Window.restate, ← List.map_tail] at hc
      obtain ⟨b, hb, rfl⟩ := List.mem_map.1 hc
      rw [if_neg (by rw [htail b hb]; exact hold.symm)]
      exact htail b hb
  entries := by
    have h : ((w.restate old new).waiting.map (·.entries.length)) = w.waiting.map (·.entries.length) := by
      simp only [Window.restate, List.map_map]
      refine List.map_congr_left fun b _ => ?_
      simp only [Function.comp]
      split <;> rfl
    simp only [Window.inUse, h]
    exact Nat.le_refl _

/-- The power-on window is tame after any window (R178). -/
theorem Window.Tame.reset (w : Window) : w.Tame Window.reset :=
  .of_sublist nofun (List.nil_sublist _) (List.nil_sublist _)

/-! ### Changes of the device -/

/-- A change of the device that keeps each of the three laws on its own. -/
structure State.KeepsLaws (s t : State) : Prop where
  windows : s.windowLaw → t.windowLaw
  batches : s.batchLaw → t.batchLaw
  capacity : s.capacityLaw → t.capacityLaw

/-- An operation that keeps the three laws from every state. -/
abbrev Lawful (f : State → State) : Prop := ∀ s : State, s.KeepsLaws (f s)

theorem State.KeepsLaws.refl (s : State) : s.KeepsLaws s := ⟨id, id, id⟩

theorem State.KeepsLaws.trans {s t u : State} (h : s.KeepsLaws t) (k : t.KeepsLaws u) : s.KeepsLaws u :=
  ⟨k.windows ∘ h.windows, k.batches ∘ h.batches, k.capacity ∘ h.capacity⟩

/-- The law of the descriptors holds where every place keeps its descriptor or has none. -/
theorem State.windowLaw.of_desc {s t : State} (h : ∀ i, ∀ d ∈ (t.win i).place.desc, d ∈ (s.win i).place.desc)
    (hs : s.windowLaw) : t.windowLaw := by
  obtain ⟨hvalid, hclash⟩ := hs
  refine ⟨fun i d hd => hvalid i d (h i d hd), fun i j hij d hd => ?_⟩
  have hsj := hclash i j hij d (h i d hd)
  cases ht : (t.win j).place.desc with
  | none => simp [Place.clashes, ht]
  | some e =>
    have he : (s.win j).place.desc = some e := h j e ht
    simpa [Place.clashes, ht, he] using hsj

/-- Tame changes of any windows keep the laws. -/
theorem State.KeepsLaws.of_tame {s t : State} (h : ∀ i, (s.win i).Tame (t.win i)) : s.KeepsLaws t where
  windows := .of_desc fun i => (h i).desc
  batches := fun hb i => (h i).batches (hb i)
  capacity := Nat.le_trans (State.inUse_le fun i => (h i).entries)

theorem State.KeepsLaws.of_windows_eq {s t : State} (h : t.windows = s.windows) : s.KeepsLaws t :=
  .of_tame fun i => by rw [State.win, State.win, h]; exact .refl _

/-- Changes outside the windows follow a change that keeps the laws. -/
theorem State.KeepsLaws.frame {s t u : State} (h : s.KeepsLaws t) (e : u.windows = t.windows) : s.KeepsLaws u :=
  h.trans (.of_windows_eq e)

theorem State.KeepsLaws.mapWin (i : WIdx) (f : Window → Window) {s : State} (h : (s.win i).Tame (f (s.win i))) :
    s.KeepsLaws (s.mapWin i f) :=
  .of_tame fun j => by
    by_cases hij : i = j
    · subst hij; simpa using h
    · rw [State.mapWin_win_other _ _ _ _ hij]; exact .refl _

/-- A change by `f` where it keeps the laws, after a change that keeps them. -/
theorem State.KeepsLaws.andThen {f : State → State} {s t : State} (h : s.KeepsLaws t) (hf : Lawful f) : s.KeepsLaws (f t) :=
  h.trans (hf t)

theorem State.KeepsLaws.setEngine {s t : State} (h : s.KeepsLaws t) (e : Engine) : s.KeepsLaws { t with engine := e } :=
  h.frame rfl

theorem Lawful.mapWin {i : WIdx} {f : Window → Window} (h : ∀ w : Window, w.Tame (f w)) : Lawful (State.mapWin i f) :=
  fun _ => .mapWin i f (h _)

theorem Lawful.foldl {α : Type} (f : State → α → State) (h : ∀ a, Lawful (f · a)) (l : List α) : Lawful (l.foldl f) := by
  intro s
  induction l generalizing s with
  | nil => exact .refl s
  | cons a l ih => exact (h a s).trans (ih _)

/-! ### Shared operations -/

theorem State.record_lawful (b : RecordBody) : Lawful (State.record b) := fun _ => .of_windows_eq rfl

theorem State.answerUpdate_lawful (a : Answer) : Lawful (State.answerUpdate a) := fun _ => .of_windows_eq rfl

theorem State.answerCycle_lawful (a : Answer) : Lawful (State.answerCycle a) := fun _ => .of_windows_eq rfl

theorem State.reply_lawful (r : Result) (q : List Byte) : Lawful (State.reply r q) :=
  fun s => .of_windows_eq (State.reply_frame r q s).2.1

theorem State.refuse_lawful (r : Result) : Lawful (State.refuse r) := State.reply_lawful r []

theorem State.judgeAttn_lawful : Lawful State.judgeAttn := fun _ => .of_windows_eq rfl

theorem State.faultHeldOf_lawful (i : WIdx) : Lawful (State.faultHeldOf i) :=
  fun s => .of_windows_eq (State.faultHeldOf_frame i s).2.1

theorem State.faultHeld_lawful : Lawful State.faultHeld := fun s => .of_windows_eq (State.faultHeld_frame s).2.1

theorem State.countDone_lawful (i : WIdx) : Lawful (State.countDone i) := .mapWin fun w => .counters w _

theorem State.countAborted_lawful (i : WIdx) : Lawful (State.countAborted i) := .mapWin fun w => .counters w _

theorem State.countSpoiled_lawful (i : WIdx) : Lawful (State.countSpoiled i) := .mapWin fun w => .counters w _

theorem State.countOverrun_lawful (i : WIdx) : Lawful (State.countOverrun i) := .mapWin fun w => .counters w _

theorem State.countDenied_lawful (i : WIdx) : Lawful (State.countDenied i) := .mapWin fun w => .counters w _

theorem State.emptySlot_lawful (i : WIdx) : Lawful (State.emptySlot i) := .mapWin fun w => .openBatch w none rfl

theorem State.deny_lawful (port : Port) (r : BusRequest) (i : WIdx) (reason : DenyReason) :
    Lawful (State.deny port r i reason) := by
  intro s
  unfold State.deny
  exact .andThen (.andThen (.refl s) (State.record_lawful _)) (State.countDenied_lawful i)

theorem State.openNew_lawful (i : WIdx) : Lawful (State.openNew i) := fun s =>
  State.KeepsLaws.frame (.andThen (.refl s) (.mapWin fun w => .openBatch w (some (.gathering s.store.nextId [])) rfl)) rfl

theorem State.ensureOpen_lawful (i : WIdx) : Lawful (State.ensureOpen i) := by
  intro s
  unfold State.ensureOpen
  split
  · exact .refl s
  · exact State.openNew_lawful i s

theorem State.spoil_lawful (i : WIdx) (id : Half) (cause : SpoilCause) : Lawful (State.spoil i id cause) := by
  intro s
  unfold State.spoil
  exact .andThen (.andThen (.andThen (.refl s) (.mapWin fun w => .openBatch w _ rfl)) (State.record_lawful _))
    (State.countSpoiled_lawful i)

theorem State.discardOpen_lawful (i : WIdx) (cause : DiscardCause) : Lawful (State.discardOpen i cause) := by
  intro s
  unfold State.discardOpen
  split
  · exact .andThen (.andThen (.refl s) (State.emptySlot_lawful i)) (State.record_lawful _)
  · exact .refl s

theorem State.discardClosed_lawful (i : WIdx) (cause : DiscardCause) : Lawful (State.discardClosed i cause) := fun s =>
  (State.KeepsLaws.andThen (.refl s) (.mapWin fun w => .waiting w _ List.filter_sublist)).trans
    (Lawful.foldl _ (fun _ => State.record_lawful _) _ _)

theorem State.discardQueued_lawful (i : WIdx) (cause : DiscardCause) : Lawful (State.discardQueued i cause) := by
  intro s
  unfold State.discardQueued
  split
  · exact .andThen (.setEngine (.andThen (.refl s) (.mapWin fun w => .waiting w _ List.eraseP_sublist)) _)
      (State.record_lawful _)
  · exact .refl s

theorem State.leaveAtWork_lawful (i : WIdx) : Lawful (State.leaveAtWork i) :=
  .mapWin fun w => .waiting w _ List.eraseP_sublist

theorem State.queueFrom_keepsLaws {stamp : Option Stamp} {i : WIdx} {s t : State} (h : s.queueFrom stamp i = some t) :
    s.KeepsLaws t := by
  unfold State.queueFrom at h
  split at h
  · next id w hw =>
    cases h
    exact (State.KeepsLaws.mapWin i (fun _ => w) (.queueOldest hw)).frame rfl
  · cases h

theorem State.queueImmediate_lawful (i : WIdx) : Lawful (State.queueImmediate i) := by
  intro s
  unfold State.queueImmediate
  split
  · split
    · cases hq : s.queueFrom none i with
      | none => exact .refl s
      | some t => exact State.queueFrom_keepsLaws hq
    · exact .refl s
  · exact .refl s

/-- Closing the open batch keeps the laws when the batch has entries and the list has room. -/
theorem State.closeBatch_keepsLaws {i : WIdx} {id : Half} {es : List Entry} {cause : CloseCause} {s : State}
    (ho : openEntries (s.win i).openBatch = es) (hne : es ≠ []) (hroom : (s.win i).hasRoom = true) :
    s.KeepsLaws (s.closeBatch i id es cause) :=
  (State.KeepsLaws.mapWin i _ (.close _ id es cause ho hne hroom)).trans (State.queueImmediate_lawful i _)

/-! ### A staged write -/

theorem wordAddr_aligned (a : Word) : (wordAddr a).toNat % 4 = 0 := by
  simp [wordAddr, Nat.and_mod_two_pow (n := 2)]

theorem writeLanes_nonempty (a : Word) (d : WriteData) : (writeLanes a d).toList.any Option.isSome = true := by
  cases d with
  | one => simp only [writeLanes]; split <;> rfl
  | two => simp only [writeLanes]; split <;> rfl
  | four => rfl

theorem overlay_nonempty {new old : Quad (Option Byte)} (h : old.toList.any Option.isSome = true) :
    (overlay new old).toList.any Option.isSome = true := by
  have hor : ∀ n o : Option Byte, o.isSome = true → (n <|> o).isSome = true := by
    intro n o ho
    cases n with
    | none => exact ho
    | some b => rfl
  simp only [overlay, Quad.zipWith, Quad.toList, List.any_cons, List.any_nil, Bool.or_false, Bool.or_eq_true] at h ⊢
  exact h.imp (hor _ _) (.imp (hor _ _) (.imp (hor _ _) (hor _ _)))

/-- Coalescing keeps the words of an entry list in their places (R20). -/
theorem coalesce_addrs (a : Word) (lanes : Quad (Option Byte)) (es : List Entry) :
    (coalesce a lanes es).map (·.addr) = es.map (·.addr) := by
  rw [coalesce, List.map_map]
  refine List.map_congr_left fun e _ => ?_
  simp only [Function.comp]
  split <;> rfl

theorem goodEntries.coalesce {es : List Entry} (a : Word) (lanes : Quad (Option Byte)) (h : goodEntries es) :
    goodEntries (coalesce a lanes es) := by
  refine ⟨by rw [coalesce_addrs]; exact h.1, fun e he => ?_⟩
  obtain ⟨o, ho, rfl⟩ := List.mem_map.1 he
  obtain ⟨haddr, hlanes⟩ := h.2 o ho
  split
  · exact ⟨haddr, overlay_nonempty hlanes⟩
  · exact ⟨haddr, hlanes⟩

theorem goodEntries.append {es : List Entry} {e : Entry} (h : goodEntries es) (hnew : hasWord e.addr es = false)
    (haddr : e.addr.toNat % 4 = 0) (hlanes : e.lanes.toList.any Option.isSome = true) : goodEntries (es ++ [e]) := by
  have hfresh : e.addr ∉ es.map (·.addr) := by simpa [hasWord] using hnew
  refine ⟨by simpa [List.nodup_append] using ⟨h.1, by simpa using hfresh⟩, fun o ho => ?_⟩
  rcases List.mem_append.1 ho with ho | ho
  · exact h.2 o ho
  · rw [List.mem_singleton.1 ho]; exact ⟨haddr, hlanes⟩

/-- An accepted entry list is not empty, is well formed if the old one was, and is longer only where an entry was free (R20, R25). -/
theorem stageVerdict_accept {s : State} {r : Bool} {x : StagedWrite} {old new : List Entry}
    (h : stageVerdict s r x old = .accept new) :
    new ≠ [] ∧ (goodEntries old → goodEntries new) ∧
      (new.length = old.length ∨ (new.length = old.length + 1 ∧ s.inUse < 256)) := by
  unfold stageVerdict at h
  simp only [] at h
  split at h
  · next hword =>
    cases h
    have hne : old ≠ [] := by rintro rfl; simp [hasWord] at hword
    exact ⟨by simpa [coalesce] using hne, goodEntries.coalesce _ _, .inl (by simp [coalesce])⟩
  · next hword =>
    split at h
    · cases h
    · split at h
      · simp only [fullVerdict] at h
        (repeat' split at h) <;> cases h
      · next hfull =>
        cases h
        exact ⟨by simp, fun hg => hg.append (by simpa using hword) (wordAddr_aligned _) (writeLanes_nonempty _ _),
          .inr ⟨by simp, by simpa [Config.stagingEntries] using hfull⟩⟩

/-- A write is accepted only into an OPEN batch, and a closing one only with room in the waiting list (R25, R33). -/
theorem verdict_accept {s : State} {r : Bool} {x : StagedWrite} {new : List Entry} (h : verdict s r x = .accept new) :
    ∃ id old, (s.win x.window).openBatch = some (.gathering id old) ∧
      (x.closing = true → (s.win x.window).hasRoom = true) ∧ stageVerdict s r x old = .accept new := by
  unfold verdict at h
  split at h
  · cases h
  · split at h <;> cases h
  · next id old hopen =>
    split at h
    · split at h <;> cases h
    · next hroom => exact ⟨id, old, hopen, by simpa using hroom, h⟩

/-- The open batch takes its new entry list (R20). -/
theorem State.KeepsLaws.accept {s : State} {i : WIdx} {id : Half} {old new : List Entry} (id' : Half)
    (hopen : (s.win i).openBatch = some (.gathering id old)) (hgood : goodEntries old → goodEntries new)
    (hlen : new.length = old.length ∨ (new.length = old.length + 1 ∧ s.inUse < 256)) :
    s.KeepsLaws (s.mapWin i fun w => { w with openBatch := some (.gathering id' new) }) where
  windows := .of_desc fun j d hd => by
    by_cases hij : i = j
    · subst hij; simpa using hd
    · rwa [State.mapWin_win_other _ _ _ _ hij] at hd
  batches := by
    intro hb j
    by_cases hij : i = j
    · subst hij
      obtain ⟨hgo, hrest⟩ := hb i
      rw [hopen] at hgo
      simpa using ⟨hgood hgo, hrest⟩
    · rw [State.mapWin_win_other _ _ _ _ hij]; exact hb j
  capacity := by
    intro hc
    have hsum := State.setWin_inUse i { s.win i with openBatch := some (.gathering id' new) } s
    simp only [Window.inUse, hopen, openEntries] at hsum
    rw [State.mapWin_eq_setWin]
    unfold State.capacityLaw at hc ⊢
    omega

theorem State.acceptWrite_keepsLaws {s : State} {r : Bool} {x : StagedWrite} {new : List Entry}
    (h : verdict s r x = .accept new) : s.KeepsLaws (s.acceptWrite x new) := by
  obtain ⟨id, old, hopen, hroom, hstage⟩ := verdict_accept h
  obtain ⟨hne, hgood, hlen⟩ := stageVerdict_accept hstage
  have htaken := State.KeepsLaws.accept (s.openId x.window) hopen hgood hlen
  have hclosed : s.KeepsLaws (
      if x.closing then
        (s.mapWin x.window fun w => { w with openBatch := some (.gathering (s.openId x.window) new) }).closeBatch
          x.window (s.openId x.window) new .closingWrite
      else s.mapWin x.window fun w => { w with openBatch := some (.gathering (s.openId x.window) new) }) := by
    split
    · next hcl =>
      exact htaken.trans (State.closeBatch_keepsLaws (by simp [openEntries]) hne (by simpa [Window.hasRoom] using hroom hcl))
    · exact htaken
  unfold State.acceptWrite
  simp only []
  split
  · exact hclosed.frame rfl
  · exact hclosed.frame rfl

theorem State.stageWrite_lawful (x : StagedWrite) (timer : Option HoldTimer) : Lawful (State.stageWrite x timer) := by
  intro s
  have hopen := State.ensureOpen_lawful x.window s
  unfold State.stageWrite
  simp only []
  cases hv : verdict (s.ensureOpen x.window) timer.isSome x with
  | accept es => exact hopen.trans (State.acceptWrite_keepsLaws hv)
  | refuse => exact hopen.frame rfl
  | endSpoiled => exact (hopen.trans (State.emptySlot_lawful _ _)).frame rfl
  | spoil cause => exact (hopen.trans (State.spoil_lawful _ _ _ _)).frame rfl
  | hold f => exact hopen.frame rfl

theorem State.expireHold_lawful (x : StagedWrite) (f : WaitsFor) : Lawful (State.expireHold x f) := by
  intro s
  have hopen := State.ensureOpen_lawful x.window s
  unfold State.expireHold
  simp only []
  split
  · exact (hopen.trans (State.spoil_lawful _ _ _ _)).frame rfl
  · exact hopen.frame rfl

theorem State.reconsider_lawful : Lawful State.reconsider := by
  intro s
  unfold State.reconsider
  split
  · exact State.stageWrite_lawful _ _ s
  · exact .refl s

/-! ### The upstream ports -/

theorem State.refuseUpdate_lawful (r : BusRequest) (i : WIdx) (reason : DenyReason) :
    Lawful (State.refuseUpdate r i reason) :=
  fun s => (State.deny_lawful .update r i reason s).frame rfl

theorem State.passUpdate_lawful (r : BusRequest) (d : Decode) : Lawful (State.passUpdate r d) := fun _ => .of_windows_eq rfl

theorem State.forwardRead_lawful (r : BusRequest) (d : Decode) (i : WIdx) : Lawful (State.forwardRead r d i) := by
  intro s
  unfold State.forwardRead
  simp only []
  split <;> exact .of_windows_eq rfl

theorem State.dispatchUpdate_lawful (r : BusRequest) (d : Decode) : Lawful (State.dispatchUpdate r d) := by
  intro s
  cases d with
  | unmapped => exact State.passUpdate_lawful r _ s
  | faulted i => exact State.refuseUpdate_lawful r i _ s
  | pass i access _ _ =>
    cases access with
    | readWrite => exact State.passUpdate_lawful r _ s
    | none => exact State.refuseUpdate_lawful r i _ s
    | readOnly =>
      cases r with
      | read => exact State.passUpdate_lawful _ _ s
      | write => exact State.refuseUpdate_lawful _ i _ s
  | held i access _ tap fields =>
    cases access with
    | none => exact State.refuseUpdate_lawful r i _ s
    | readWrite =>
      cases r with
      | read => exact State.forwardRead_lawful _ _ i s
      | write a data => exact State.stageWrite_lawful ⟨a, data, i, tap, fields⟩ none s
    | readOnly =>
      cases r with
      | read => exact State.forwardRead_lawful _ _ i s
      | write => exact State.refuseUpdate_lawful _ i _ s

theorem State.takeUpdate_lawful (r : BusRequest) : Lawful (State.takeUpdate r) := by
  intro s
  have hfirst : s.KeepsLaws { s with upd := { s.upd with answer := none } } := .of_windows_eq rfl
  unfold State.takeUpdate
  simp only []
  split
  · exact hfirst.trans (State.dispatchUpdate_lawful r _ _)
  · exact hfirst.frame rfl

theorem State.takeUpdates_lawful (l : List BusRequest) : Lawful (State.takeUpdates l) := by
  intro s
  induction l generalizing s with
  | nil => exact .refl s
  | cons r l ih =>
    unfold State.takeUpdates
    split
    · have hshift : s.KeepsLaws { s with upd := { s.upd with waiting := l } } := .of_windows_eq rfl
      exact (hshift.trans (State.takeUpdate_lawful r _)).trans (ih _)
    · exact .refl s

theorem State.requestUpdate_lawful (r : BusRequest) : Lawful (State.requestUpdate r) := by
  intro s
  unfold State.requestUpdate
  split
  · exact State.takeUpdate_lawful r s
  · exact .of_windows_eq rfl

theorem State.refuseCycle_lawful (r : BusRequest) (i : WIdx) (reason : DenyReason) : Lawful (State.refuseCycle r i reason) :=
  fun s => (State.deny_lawful .cycle r i reason s).frame rfl

theorem State.placeCycle_lawful (t : CycleTxn) : Lawful (State.placeCycle t) := fun _ => .of_windows_eq rfl

theorem State.readHeldWindow_lawful (r : BusRequest) (d : Decode) (i : WIdx) : Lawful (State.readHeldWindow r d i) := by
  intro s
  unfold State.readHeldWindow
  split <;> exact .of_windows_eq rfl

theorem State.dispatchCycle_lawful (r : BusRequest) (d : Decode) : Lawful (State.dispatchCycle r d) := by
  intro s
  cases d with
  | unmapped => exact State.placeCycle_lawful _ s
  | faulted i => exact State.refuseCycle_lawful r i _ s
  | pass i _ access _ =>
    cases access with
    | readWrite => exact State.placeCycle_lawful _ s
    | none => exact State.refuseCycle_lawful r i _ s
    | readOnly =>
      cases r with
      | read => exact State.placeCycle_lawful _ s
      | write => exact State.refuseCycle_lawful _ i _ s
  | held i _ access _ _ =>
    cases r with
    | write => cases access <;> exact State.refuseCycle_lawful _ i _ s
    | read =>
      cases access with
      | none => exact State.refuseCycle_lawful _ i _ s
      | readOnly => exact State.readHeldWindow_lawful _ _ i s
      | readWrite => exact State.readHeldWindow_lawful _ _ i s

theorem State.takeCycle_lawful (r : BusRequest) : Lawful (State.takeCycle r) := by
  intro s
  have hfirst : s.KeepsLaws { s with cyc := { s.cyc with answer := none } } := .of_windows_eq rfl
  unfold State.takeCycle
  simp only []
  split
  · exact hfirst.trans (State.dispatchCycle_lawful r _ _)
  · exact hfirst.frame rfl

theorem State.takeCycles_lawful (l : List BusRequest) : Lawful (State.takeCycles l) := by
  intro s
  induction l generalizing s with
  | nil => exact .refl s
  | cons r l ih =>
    unfold State.takeCycles
    split
    · have hshift : s.KeepsLaws { s with cyc := { s.cyc with waiting := l } } := .of_windows_eq rfl
      exact (hshift.trans (State.takeCycle_lawful r _)).trans (ih _)
    · exact .refl s

theorem State.requestCycle_lawful (r : BusRequest) : Lawful (State.requestCycle r) := by
  intro s
  unfold State.requestCycle
  split
  · exact State.takeCycle_lawful r s
  · exact .of_windows_eq rfl

/-! ### Resets and what is owed -/

/-- Windows that all stand at their power-on values keep every law. -/
theorem State.KeepsLaws.of_resetWindows {s t : State} (h : t.windows = resetWindows) : s.KeepsLaws t :=
  .of_tame fun i => by
    have hi : t.win i = Window.reset := by simp [State.win, h, resetWindows]
    rw [hi]; exact .reset _

theorem State.completeReset_lawful (waited : Bool) : Lawful (State.completeReset waited) := fun _ =>
  .of_resetWindows (State.reply_frame ..).2.1

theorem State.discardAll_lawful (scope : ResetScope) : Lawful (State.discardAll scope) := fun s =>
  (Lawful.foldl (fun t i => t.mapWin i Window.resetDiscard)
    (fun _ _ => .mapWin _ _ (.of_sublist (fun _ h => h) (List.nil_sublist _) List.filter_sublist)) allWindows s).frame rfl

theorem State.settleWork_eq (s : State) :
    s.settleWork = if s.settleWrite.fullResetDue then s.settleWrite.completeReset true else s.settleWrite := rfl

theorem State.settleWrite_lawful : Lawful State.settleWrite := by
  intro s
  unfold State.settleWrite
  split
  · exact State.reconsider_lawful s
  · exact .refl s

theorem State.settleWork_lawful : Lawful State.settleWork := by
  intro s
  rw [State.settleWork_eq]
  split
  · exact .andThen (State.settleWrite_lawful s) (State.completeReset_lawful true)
  · exact State.settleWrite_lawful s

theorem State.settle_lawful : Lawful State.settle := fun s =>
  ((State.settleWork_lawful s).trans (State.takeUpdates_lawful _ _)).trans (State.takeCycles_lawful _ _)

/-- An event keeps the laws when its own effect does. -/
theorem event_keepsLaws {f : State → State} (hf : Lawful f) {s t : State} (h : event f s = .next t) : s.KeepsLaws t := by
  rw [event_next] at h
  cases h
  split
  · exact .refl s
  · exact ((State.settle_lawful s).trans (hf _)).frame rfl

theorem State.endFrame_lawful : Lawful State.endFrame := fun s => .of_windows_eq (by rw [State.endFrame_frame])

theorem State.takeRequest_lawful {op : State → State} (hop : Lawful op) (tag code : Byte) (p : List Byte) :
    Lawful (State.takeRequest tag code p op) := by
  intro s
  by_cases h : s.svc.slot = .idle
  · rw [State.takeRequest_idle _ _ _ _ _ h]
    exact .andThen (.of_windows_eq rfl) hop
  · rw [State.takeRequest_busy _ _ _ _ _ h]
    exact (State.endFrame_lawful s).frame rfl

/-- A service command's row keeps the laws when its act does. -/
theorem request_keepsLaws {op : State → State} (hop : Lawful op) {tag code : Byte} {p : List Byte} {s t : State}
    (h : event (State.takeRequest tag code p op) s = .next t) : s.KeepsLaws t :=
  event_keepsLaws (State.takeRequest_lawful hop tag code p) h

/-! ### The Commit Engine -/

theorem State.holdCycleRead_lawful (i : WIdx) : Lawful (State.holdCycleRead i) :=
  fun s => .of_windows_eq (State.holdCycleRead_frame i s).2.1

theorem State.releaseCycleRead_lawful (i : WIdx) : Lawful (State.releaseCycleRead i) :=
  fun s => .of_windows_eq (State.releaseCycleRead_frame i s).2.1

theorem State.faultCycleRead_lawful (i : WIdx) : Lawful (State.faultCycleRead i) :=
  fun s => .of_windows_eq (State.faultCycleRead_frame i s).2.1

theorem Lawful.restate (i : WIdx) {old new : BatchState} (hold : old ≠ .closed) (hnew : new ≠ .closed) :
    Lawful (State.mapWin i (Window.restate old new)) :=
  .mapWin fun w => .restate w old new hold hnew

theorem State.placeCommit_lawful (r : BusRequest) : Lawful (State.placeCommit r) := fun _ => .of_windows_eq rfl

theorem State.placeReadOld_lawful (e : Entry) : Lawful (State.placeReadOld e) := State.placeCommit_lawful _

theorem State.startCommit_lawful : Lawful State.startCommit := by
  intro s
  unfold State.startCommit
  split
  · split
    · next i id rest _ =>
      split
      · split
        · dsimp only
          have hstate := Lawful.restate (old := .queued) (new := .committing) i nofun nofun s
          exact .andThen (.andThen (.setEngine hstate _) (State.holdCycleRead_lawful i)) (State.placeReadOld_lawful _)
        · exact .refl s
      · exact .refl s
    · exact .refl s
  · exact .refl s

theorem State.completeCommit_lawful (h : BatchInHand) (b : WaitBatch) : Lawful (State.completeCommit h b) := by
  intro s
  have hleft := State.KeepsLaws.andThen (.setEngine (State.leaveAtWork_lawful h.window s)
    { s.engine with inHand := none, cursor := none, undo := [] }) (State.countDone_lawful h.window)
  unfold State.completeCommit
  dsimp only
  split
  · exact .andThen (.setEngine (.andThen (.andThen hleft (State.record_lawful _)) (State.releaseCycleRead_lawful h.window)) _)
      (State.queueImmediate_lawful h.window)
  · exact .andThen (.setEngine (.andThen hleft (State.releaseCycleRead_lawful h.window)) _)
      (State.queueImmediate_lawful h.window)

theorem State.readOldDone_lawful (e : Entry) (c : Cursor) (old : Quad Byte) : Lawful (State.readOldDone e c old) :=
  fun _ => .of_windows_eq rfl

theorem State.writeNewDone_lawful (h : BatchInHand) (b : WaitBatch) (c : Cursor) : Lawful (State.writeNewDone h b c) := by
  intro s
  unfold State.writeNewDone
  dsimp only
  split
  · exact .andThen (.setEngine (.refl s) _) (State.placeReadOld_lawful _)
  · exact .andThen (.setEngine (.refl s) _) (State.completeCommit_lawful _ b)

theorem State.completeRollback_lawful : Lawful State.completeRollback := by
  intro s
  unfold State.completeRollback
  split
  · exact .refl s
  · dsimp only
    split
    · next h _ =>
      have hcounted := State.KeepsLaws.andThen (.setEngine (State.leaveAtWork_lawful h.window s)
        { s.engine with inHand := none }) (State.countAborted_lawful h.window)
      exact .andThen (.setEngine (.andThen (.andThen hcounted (State.record_lawful _))
        (State.releaseCycleRead_lawful h.window)) _) (State.queueImmediate_lawful h.window)
    · exact .andThen (.setEngine (.andThen (.andThen (.refl s) (State.record_lawful _)) (State.releaseCycleRead_lawful _)) _)
        (State.reply_lawful _ _)

theorem State.continueRollback_lawful : Lawful State.continueRollback := by
  intro s
  unfold State.continueRollback
  split
  · exact .andThen (.refl s) (State.placeCommit_lawful _)
  · exact State.completeRollback_lawful s

theorem State.failCommit_lawful (h : BatchInHand) (e : Entry) (c : Cursor) : Lawful (State.failCommit h e c) := by
  intro s
  unfold State.failCommit
  dsimp only
  have hstate := Lawful.restate (old := .committing) (new := .rollingBack) h.window nofun nofun s
  exact .andThen (.setEngine hstate _) State.continueRollback_lawful

theorem State.rollbackWriteDone_lawful : Lawful State.rollbackWriteDone := by
  intro s
  unfold State.rollbackWriteDone
  exact .andThen (.setEngine (.refl s) _) State.continueRollback_lawful

theorem State.halt_lawful (i : WIdx) : Lawful (State.halt i) := by
  intro s
  unfold State.halt
  exact .setEngine (.andThen (.refl s) (.mapWin fun w => .place w _ fun _ h => by rwa [Place.toFaulted_desc] at h)) _

theorem State.failRollback_lawful : Lawful State.failRollback := by
  intro s
  unfold State.failRollback
  split
  · exact .refl s
  · dsimp only
    split
    · next h _ =>
      have hcounted := (State.leaveAtWork_lawful h.window s).andThen (State.countAborted_lawful h.window)
      exact .andThen (.andThen (.andThen (.andThen hcounted (State.record_lawful _)) (State.halt_lawful h.window))
        (State.record_lawful _)) (State.faultCycleRead_lawful h.window)
    · exact .andThen (.andThen (.andThen (.andThen (State.discardQueued_lawful _ _ s) (State.halt_lawful _))
        (State.record_lawful _)) (State.faultCycleRead_lawful _)) (State.reply_lawful _ _)

/-! ### The end of an access -/

theorem State.endCommitAccess_lawful (o : AccessEnd) : Lawful (State.endCommitAccess o) := by
  intro s
  unfold State.endCommitAccess
  split
  · (repeat' split)
    · exact State.readOldDone_lawful _ _ _ s
    · exact State.writeNewDone_lawful _ _ _ s
    · exact State.failCommit_lawful _ _ _ s
    · exact .refl s
    · exact .refl s
    · exact .refl s
  · split
    · exact State.rollbackWriteDone_lawful s
    · exact State.failRollback_lawful s
  · exact .refl s
  · exact .refl s

theorem State.endUpdateAccess_lawful (o : AccessEnd) : Lawful (State.endUpdateAccess o) := by
  intro s
  unfold State.endUpdateAccess
  split
  · split
    · exact .of_windows_eq rfl
    · split
      · exact .of_windows_eq rfl
      · dsimp only
        split <;> exact .of_windows_eq rfl
  · cases o <;> exact .of_windows_eq rfl
  · exact .refl s
  · exact .refl s
  · exact .refl s

theorem State.endCycleAccess_lawful (o : AccessEnd) : Lawful (State.endCycleAccess o) := by
  intro s
  unfold State.endCycleAccess
  split
  · split
    · exact .of_windows_eq rfl
    · split
      · split <;> exact .of_windows_eq rfl
      · dsimp only
        split <;> exact .of_windows_eq rfl
  · cases o <;> exact .of_windows_eq rfl
  · exact .refl s
  · exact .refl s
  · exact .refl s

theorem State.endProbe_lawful (o : AccessEnd) : Lawful (State.endProbe o) := by
  intro s
  unfold State.endProbe
  split
  · dsimp only
    split
    · exact .andThen (.of_windows_eq rfl) (State.reply_lawful _ _)
    · exact .andThen (.of_windows_eq rfl) (State.reply_lawful _ _)
  · exact .refl s

theorem State.endAccess_lawful (o : AccessEnd) : Lawful (State.endAccess o) := by
  intro s
  have hfree : s.KeepsLaws { s with arb := { s.arb with port := none } } := .of_windows_eq rfl
  unfold State.endAccess
  split
  · exact .refl s
  · simp only []
    split
    · exact hfree.trans (State.endCycleAccess_lawful o _)
    · exact hfree.trans (State.endCommitAccess_lawful o _)
    · exact hfree.trans (State.endUpdateAccess_lawful o _)
    · exact hfree.trans (State.endProbe_lawful o _)

/-- A grant reaches the arbiter and the two port units alone. -/
theorem State.grantNext_lawful : Lawful State.grantNext := by
  intro s
  unfold State.grantNext
  split
  · unfold State.seeGrant
    (repeat' split) <;> exact .of_windows_eq rfl
  · exact .refl s

/-! ### Epochs and timers -/

/-- The open batch of a window in close mode ON_EPOCH: it closes only with entries and with room (R74). -/
theorem State.epochClose_lawful (st : Stamp) (i : WIdx) : Lawful (State.epochClose st i) := by
  intro s
  unfold State.epochClose
  split
  · exact .refl s
  · exact .refl s
  · next hopen =>
    split
    · next hroom => exact .mapWin i _ (.close _ _ _ _ (by rw [hopen, openEntries]) (List.cons_ne_nil _ _) hroom)
    · exact State.record_lawful _ s
  · exact State.emptySlot_lawful i s

theorem State.epochQueue_lawful (st : Stamp) (i : WIdx) : Lawful (State.epochQueue st i) := by
  intro s
  unfold State.epochQueue
  split
  · next hq => exact State.queueFrom_keepsLaws hq
  · split
    · exact .andThen (State.countOverrun_lawful i s) (State.record_lawful _)
    · exact .refl s

theorem State.deliverTo_lawful (st : Stamp) (i : WIdx) : Lawful (State.deliverTo st · i) := by
  intro s
  dsimp only
  unfold State.deliverTo
  split
  · split
    · split
      · exact .andThen (State.epochClose_lawful st i s) (State.epochQueue_lawful st i)
      · exact State.epochQueue_lawful st i s
    · exact .refl s
  · exact .refl s

theorem State.deliver_lawful (st : Stamp) : Lawful (State.deliver st) :=
  Lawful.foldl _ (State.deliverTo_lawful st) allWindows

theorem State.KeepsLaws.setEpoch {s t : State} (h : s.KeepsLaws t) (e : EpochUnit) : s.KeepsLaws { t with epoch := e } :=
  h.frame rfl

theorem State.giveEpoch_lawful (src : EpochSource) : Lawful (State.giveEpoch src) := by
  intro s
  unfold State.giveEpoch
  dsimp only
  exact .andThen (.setEpoch (.refl s) _) (State.deliver_lawful _)

theorem State.timerEpoch_lawful : Lawful State.timerEpoch := by
  intro s
  unfold State.timerEpoch
  exact .andThen (.setEpoch (.refl s) _) (State.giveEpoch_lawful .timer)

theorem State.flywheelEpoch_lawful : Lawful State.flywheelEpoch := by
  intro s
  unfold State.flywheelEpoch
  exact .setEpoch (.andThen (State.timerEpoch_lawful s) (State.record_lawful _)) _

theorem State.acceptPulse_lawful (line : EpochLine) : Lawful (State.acceptPulse line) := by
  intro s
  have hline := State.giveEpoch_lawful .lineA s
  cases line with
  | b => exact State.giveEpoch_lawful .lineB s
  | a =>
    unfold State.acceptPulse
    dsimp only
    split
    · exact .andThen (.setEpoch hline _) (State.giveEpoch_lawful .timer)
    · exact hline

theorem State.setQualifier_lawful (line : EpochLine) (q : QualifierState) : Lawful (State.setQualifier line q) :=
  fun _ => .of_windows_eq (by cases line <;> rfl)

theorem State.setLevel_lawful (line : EpochLine) (high : Bool) : Lawful (State.setLevel line high) :=
  fun _ => .of_windows_eq (by cases line <;> rfl)

theorem State.elapse_lawful (n : Nat) : Lawful (State.elapse n) :=
  fun _ => .of_windows_eq (by unfold State.elapse; split <;> rfl)

theorem State.lineInReset_lawful (line : EpochLine) (high : Bool) : Lawful (State.lineInReset line high) :=
  fun s => .trans (State.setLevel_lawful line high s) (State.setQualifier_lawful line _ _)

theorem State.lineRises_lawful (line : EpochLine) : Lawful (State.lineRises line) := by
  intro s
  have hlevel := State.setLevel_lawful line true s
  unfold State.lineRises
  dsimp only
  split
  · exact .refl s
  · split
    · exact .andThen (.andThen hlevel (State.setQualifier_lawful line .high)) (State.acceptPulse_lawful line)
    · exact .andThen hlevel (State.setQualifier_lawful line _)

theorem State.acceptDue_lawful (line : EpochLine) : Lawful (State.acceptDue line) := by
  intro s
  unfold State.acceptDue
  split
  · exact .andThen (State.setQualifier_lawful line .high s) (State.acceptPulse_lawful line)
  · exact .refl s

theorem State.lineFalls_lawful (line : EpochLine) : Lawful (State.lineFalls line) := by
  intro s
  unfold State.lineFalls
  split
  · exact .andThen (.andThen (State.acceptDue_lawful line s) (State.setLevel_lawful line false))
      (State.setQualifier_lawful line .low)
  · exact .refl s

theorem State.lineQualifies_lawful (line : EpochLine) : Lawful (State.lineQualifies line) := by
  intro s
  unfold State.lineQualifies
  split
  · exact .andThen (.andThen (State.elapse_lawful _ s) (State.setQualifier_lawful line .high))
      (State.acceptPulse_lawful line)
  · exact .refl s

theorem State.periodEnds_lawful : Lawful State.periodEnds := by
  intro s
  unfold State.periodEnds
  split
  · exact .refl s
  · exact .andThen (State.elapse_lawful _ s) State.timerEpoch_lawful
  · exact .andThen (State.elapse_lawful _ s) State.flywheelEpoch_lawful

theorem State.idleRunsOut_lawful : Lawful State.idleRunsOut := by
  intro s
  unfold State.idleRunsOut
  split
  · exact .refl s
  · exact (State.elapse_lawful _ s).frame rfl

theorem State.holdRunsOut_lawful : Lawful State.holdRunsOut := by
  intro s
  unfold State.holdRunsOut
  split
  · exact .andThen (State.elapse_lawful _ s) (State.expireHold_lawful _ _)
  · exact .refl s

theorem State.timeOut_lawful : Lawful State.timeOut := by
  intro s
  unfold State.timeOut
  split
  · exact .andThen (State.elapse_lawful _ s) (State.endAccess_lawful _)
  · exact .refl s

/-! ### The reset lines -/

theorem State.updateReset_lawful : Lawful State.updateReset := by
  intro s
  have habandon : s.KeepsLaws (State.abandonUpdate { s with pins := { s.pins with urstn := true } }) :=
    .of_windows_eq (by unfold State.abandonUpdate; split <;> rfl)
  unfold State.updateReset
  split
  · exact .refl s
  · exact .andThen habandon (State.discardAll_lawful .updateReset)

theorem State.cycleReset_lawful : Lawful State.cycleReset := by
  intro s
  unfold State.cycleReset
  split
  · exact .refl s
  · exact .of_windows_eq (by unfold State.abandonCycle; split <;> rfl)

theorem State.partResetBatches_lawful : Lawful State.partResetBatches := by
  intro s
  unfold State.partResetBatches
  exact .andThen (.andThen (State.faultHeld_lawful s) (State.discardAll_lawful .serviceBatches)) (State.reply_lawful .ok _)

theorem State.partResetFull_lawful : Lawful State.partResetFull := by
  intro s
  unfold State.partResetFull
  dsimp only
  split
  · exact .andThen (.setEngine (.refl s) _) (State.completeReset_lawful false)
  · exact .setEngine (.refl s) _

/-! ### The window commands -/

theorem windowIndex_eq_none {b : Byte} (h : 16 ≤ b.toNat) : windowIndex b = none := dif_neg (by omega)

theorem windowIndex_eq_some {b : Byte} {i : WIdx} (h : b.toNat = i.val) : windowIndex b = some i := by
  unfold windowIndex
  rw [dif_pos (by omega)]
  exact congrArg some (Fin.ext h)

theorem mem_allWindows (i : WIdx) : i ∈ allWindows := by revert i; decide

theorem extentValid_iff (base size : Word) : extentValid base size = true ↔
    base.toNat % 64 = 0 ∧ size.toNat % 64 = 0 ∧ 64 ≤ size.toNat ∧ size.toNat ≤ 16777216 ∧
      base.toNat + size.toNat ≤ 2 ^ 32 := by
  simp only [extentValid, Bool.and_eq_true, beq_iff_eq, decide_eq_true_eq, and_assoc]

/-- A closing address field that is taken is absent, or the address given where that lies in the window (R7, R184). -/
theorem closingField_eq_some {base size : Word} {flag : Byte} {addr : Word} {c : Option Word}
    (h : closingField base size flag addr = some c) :
    (flag = 0x00 ∧ c = none) ∨
      (flag = 0x01 ∧ c = some addr ∧ addr.toNat % 4 = 0 ∧ base.toNat ≤ addr.toNat ∧
        addr.toNat + 4 ≤ base.toNat + size.toNat) := by
  unfold closingField at h
  split at h
  · next hflag => exact .inl ⟨hflag, by simpa using h.symm⟩
  · split at h
    · next hin =>
      obtain ⟨hflag, haligned, hbase, hend⟩ := hin
      exact .inr ⟨hflag, by simpa using h.symm, haligned, hbase, hend⟩
    · cases h

/-- The HELD-only fields that are taken, with what check 4 of R12 has made sure of. -/
theorem heldFields_eq_some {a : WindowSetArgs} {h : HeldFields} (hf : heldFields a = some h) :
    WindowSource.ofCode a.epochSource = some h.source ∧ CloseMode.ofCode a.closeMode = some h.closeMode ∧
      closingField a.base a.size a.closingFlag a.closingAddr = some h.closing ∧ h.batchLimit = a.batchLimit ∧
      ¬(h.closeMode = .onEpoch ∧ h.source = .immediate) ∧ 1 ≤ a.batchLimit.toNat ∧ a.batchLimit.toNat ≤ 64 := by
  unfold heldFields at hf
  split at hf
  · next hs hm hc =>
    split at hf
    · cases hf
    · next hok =>
      cases hf
      simp only [not_or, Config.largestBatchLimit] at hok
      obtain ⟨hmode, hmin, hmax⟩ := hok
      exact ⟨hs, hm, hc, rfl, hmode, by omega, by omega⟩
  · cases hf

/-- The descriptor that WINDOW_SET takes, field by field (R12, checks 3 and 4). -/
theorem setDescriptor_eq_some {a : WindowSetArgs} {d : Descriptor} (h : setDescriptor a = some d) :
    classField a = some d.cls ∧ Access.ofCode a.updateAccess = some d.updateAccess ∧
      Access.ofCode a.cycleAccess = some d.cycleAccess ∧ Tap.ofCode a.tap = some d.tap ∧
      boolOfCode a.doneReports = some d.doneReports ∧ extentValid a.base a.size = true ∧ d.base = a.base ∧
      d.size = a.size := by
  unfold setDescriptor at h
  split at h
  · next hcls hupd hcyc htap hdone =>
    split at h
    · next hext =>
      cases h
      exact ⟨hcls, hupd, hcyc, htap, hdone, hext, rfl, rfl⟩
    · cases h
  · cases h

/-- A class field that is taken: PASS, or HELD with its fields. -/
theorem classField_eq_some {a : WindowSetArgs} {c : WindowClass} (h : classField a = some c) :
    (a.cls = 0x00 ∧ c = .pass) ∨ ∃ f, a.cls = 0x01 ∧ heldFields a = some f ∧ c = .held f := by
  unfold classField at h
  split at h
  · next hcls => exact .inl ⟨hcls, by simpa using h.symm⟩
  · split at h
    · next hcls =>
      obtain ⟨f, hf, rfl⟩ := Option.map_eq_some_iff.1 h
      exact .inr ⟨f, hcls, hf, rfl⟩
    · cases h

/-- The descriptor of an accepted WINDOW_SET is valid (R2, R6, R7). -/
theorem setDescriptor_valid {a : WindowSetArgs} {d : Descriptor} (h : setDescriptor a = some d) : d.valid := by
  obtain ⟨hcls, -, -, -, -, hext, hbase, hsize⟩ := setDescriptor_eq_some h
  refine ⟨by rw [hbase, hsize]; exact (extentValid_iff _ _).1 hext, fun f hf => ?_⟩
  rcases classField_eq_some hcls with ⟨-, hd⟩ | ⟨g, -, hg, hd⟩
  · rw [hd] at hf; cases hf
  · rw [hd] at hf
    cases hf
    obtain ⟨-, -, hclosing, hlimit, hmode, hmin, hmax⟩ := heldFields_eq_some hg
    refine ⟨hlimit ▸ hmin, hlimit ▸ hmax, hmode, ?_⟩
    rcases closingField_eq_some hclosing with ⟨-, hc⟩ | ⟨-, hc, hin⟩
    · rw [hc]; rfl
    · rw [hc, hbase, hsize]; exact decide_eq_true hin

/-- Two installed windows share an address from either side. -/
theorem Descriptor.overlaps_comm (d e : Descriptor) : d.overlaps e = e.overlaps d := Bool.and_comm _ _

/-- Installing a valid descriptor that overlaps no installed window keeps the laws (R13). -/
theorem State.install_keepsLaws {s : State} {i : WIdx} {d : Descriptor} (hvalid : d.valid)
    (hclear : ∀ k, (s.win k).place.clashes d = false) : s.KeepsLaws (s.install i d) := by
  have hother : ∀ {j}, i ≠ j → (s.install i d).win j = s.win j := fun hij => State.setWin_win_other _ _ _ _ hij
  have hnew : (s.install i d).win i = ⟨.active d, WindowCounters.zero, none, []⟩ := State.setWin_win_same _ _ _
  refine ⟨?_, ?_, ?_⟩
  · rintro ⟨hall, hclash⟩
    constructor
    · intro j e he
      by_cases hij : i = j
      · subst hij; rw [hnew] at he; cases he; exact hvalid
      · rw [hother hij] at he; exact hall j e he
    · intro j k hjk e he
      by_cases hij : i = j
      · subst hij
        rw [hnew] at he
        cases he
        rw [hother hjk]; exact hclear k
      · rw [hother hij] at he
        by_cases hik : i = k
        · subst hik
          have hj := hclear j
          rw [hnew]
          simp only [Place.clashes, Option.mem_def.1 he] at hj
          exact (Descriptor.overlaps_comm e d).trans hj
        · rw [hother hik]; exact hclash j k hjk e he
  · intro hb j
    by_cases hij : i = j
    · subst hij; rw [hnew]; exact (Window.Tame.reset (s.win i)).batches (hb i)
    · rw [hother hij]; exact hb j
  · intro hc
    have hsum : (s.install i d).inUse + (s.win i).inUse = s.inUse := State.setWin_inUse _ _ _
    unfold State.capacityLaw at hc ⊢
    omega

theorem State.overlapWith_eq_none {d : Descriptor} {s : State} :
    s.overlapWith d = none ↔ ∀ k, (s.win k).place.clashes d = false := by
  simp [State.overlapWith, mem_allWindows]

theorem State.windowSet_lawful (a : WindowSetArgs) : Lawful (State.windowSet a) := by
  intro s
  unfold State.windowSet
  split
  · exact State.refuse_lawful _ s
  · split
    · split
      · exact State.refuse_lawful _ s
      · next d hd =>
        split
        · exact State.reply_lawful _ _ s
        · next hno =>
          split
          · exact State.refuse_lawful _ s
          · exact .andThen (State.install_keepsLaws (setDescriptor_valid hd) (State.overlapWith_eq_none.1 hno))
              (State.reply_lawful .ok [])
    · exact State.refuse_lawful _ s

theorem State.freePlace_lawful (i : WIdx) : Lawful (State.freePlace i) := .mapWin fun w => .place w .free nofun

theorem State.windowDrop_lawful (index : Byte) : Lawful (State.windowDrop index) := by
  intro s
  unfold State.windowDrop
  split
  · exact State.refuse_lawful _ s
  · next i _ =>
    split
    · exact State.refuse_lawful _ s
    · exact State.refuse_lawful _ s
    · split
      · exact .andThen (.andThen (.andThen (.andThen (State.faultHeldOf_lawful i s) (State.discardOpen_lawful i _))
          (State.discardClosed_lawful i _)) (State.freePlace_lawful i)) (State.reply_lawful .ok _)
      · exact State.refuse_lawful _ s

theorem State.windowRead_lawful (index : Byte) : Lawful (State.windowRead index) := by
  intro s
  unfold State.windowRead
  split
  · exact State.refuse_lawful _ s
  · split
    · exact State.refuse_lawful _ s
    · exact State.reply_lawful _ _ s
    · exact State.reply_lawful _ _ s

theorem Lawful.toActive (i : WIdx) : Lawful (State.mapWin i fun w => { w with place := w.place.toActive }) :=
  .mapWin fun w => .place w _ fun _ h => by rwa [Place.toActive_desc] at h

theorem State.resume_lawful (i : WIdx) : Lawful (State.resume i) := by
  intro s
  unfold State.resume
  exact .andThen (.andThen (.andThen (.setEngine (Lawful.toActive i s) _) (State.holdCycleRead_lawful i))
    (State.queueImmediate_lawful i)) State.continueRollback_lawful

theorem State.abandon_lawful (i : WIdx) : Lawful (State.abandon i) := by
  intro s
  unfold State.abandon
  exact .andThen (.setEngine (.andThen (.andThen (.andThen (.setEngine (State.faultHeldOf_lawful i s) _)
    (State.discardOpen_lawful i _)) (State.discardClosed_lawful i _)) (Lawful.toActive i)) _) (State.reply_lawful .ok _)

theorem State.clearRetry_lawful (index : Byte) : Lawful (State.clearRetry index) := by
  intro s
  unfold State.clearRetry
  split
  · exact State.refuse_lawful _ s
  · split
    · exact State.refuse_lawful _ s
    · exact State.refuse_lawful _ s
    · exact State.resume_lawful _ s

theorem State.clearAbandon_lawful (index : Byte) : Lawful (State.clearAbandon index) := by
  intro s
  unfold State.clearAbandon
  split
  · exact State.refuse_lawful _ s
  · split
    · exact State.refuse_lawful _ s
    · exact State.refuse_lawful _ s
    · exact State.abandon_lawful _ s

theorem State.undoRead_lawful (start : Byte) : Lawful (State.undoRead start) := by
  intro s
  unfold State.undoRead
  split
  · split
    · exact State.reply_lawful _ _ s
    · exact State.refuse_lawful _ s
  · exact State.refuse_lawful _ s

/-! ### The batch commands -/

theorem State.onActiveHeld_lawful (index : Byte) {act : WIdx → State → State} (h : ∀ i, Lawful (act i)) :
    Lawful (State.onActiveHeld index act) := by
  intro s
  unfold State.onActiveHeld
  split
  · exact State.refuse_lawful _ s
  · split
    · exact State.refuse_lawful _ s
    · split <;> exact State.refuse_lawful _ s
    · split
      · exact h _ s
      · exact State.refuse_lawful _ s

theorem State.closeOpen_lawful (i : WIdx) : Lawful (State.closeOpen i) := by
  intro s
  unfold State.closeOpen
  split
  · exact State.refuse_lawful _ s
  · exact State.refuse_lawful _ s
  · exact .andThen (State.emptySlot_lawful i s) (State.reply_lawful _ _)
  · next hopen =>
    split
    · next hroom =>
      exact .andThen (State.closeBatch_keepsLaws (by rw [hopen, openEntries]) (List.cons_ne_nil _ _) hroom)
        (State.reply_lawful .ok _)
    · exact State.refuse_lawful _ s

theorem State.discardTargetOpen_lawful (i : WIdx) : Lawful (State.discardTargetOpen i) := by
  intro s
  unfold State.discardTargetOpen
  split
  · exact State.refuse_lawful _ s
  · exact .andThen (.andThen (State.faultHeldOf_lawful i s) (State.discardOpen_lawful i _)) (State.reply_lawful .ok _)

theorem State.discardTargetWaiting_lawful (i : WIdx) : Lawful (State.discardTargetWaiting i) := by
  intro s
  unfold State.discardTargetWaiting
  split
  · exact State.refuse_lawful _ s
  · exact .andThen (State.discardClosed_lawful i _ s) (State.reply_lawful .ok _)

theorem State.discardTargetQueued_lawful (i : WIdx) : Lawful (State.discardTargetQueued i) := by
  intro s
  unfold State.discardTargetQueued
  split
  · exact State.refuse_lawful _ s
  · split
    · exact State.refuse_lawful _ s
    · exact State.refuse_lawful _ s
    · exact State.refuse_lawful _ s
    · exact .andThen (.andThen (State.discardQueued_lawful i _ s) (State.reply_lawful .ok _))
        (State.queueImmediate_lawful i)

theorem State.batchList_lawful (index : Byte) : Lawful (State.batchList index) := by
  intro s
  unfold State.batchList
  split
  · exact State.refuse_lawful _ s
  · split
    · exact State.refuse_lawful _ s
    · split
      · exact State.reply_lawful _ _ s
      · exact State.refuse_lawful _ s

/-! ### Settings, reports and probes -/

theorem State.setGate_lawful (g : Gate) : Lawful (State.setGate g) := by
  intro s
  unfold State.setGate
  exact .andThen (.setEngine (.refl s) _) (fun t => State.reply_lawful .ok _ t)

theorem State.timerSet_lawful (mode : Option Byte) (period : Option Half) (qa qb : Option Byte) :
    Lawful (State.timerSet mode period qa qb) := by
  intro s
  unfold State.timerSet
  split
  · exact .andThen (.setEpoch (.refl s) _) (State.reply_lawful .ok _)
  · exact State.refuse_lawful _ s

theorem State.limitsRead_lawful : Lawful State.limitsRead := fun s => State.reply_lawful .ok _ s

theorem State.limitsSet_lawful (hold : Option Half) (timeout watermark idle : Option Byte) :
    Lawful (State.limitsSet hold timeout watermark idle) := by
  intro s
  unfold State.limitsSet
  split
  · exact .andThen (.of_windows_eq rfl) State.limitsRead_lawful
  · exact State.refuse_lawful _ s

theorem State.reportsTake_lawful : Lawful State.reportsTake := by
  intro s
  unfold State.reportsTake
  dsimp only
  exact .andThen (.of_windows_eq rfl) (State.reply_lawful _ _)

theorem State.memoryProbe_lawful (view : ProbeView) (addr : Word) : Lawful (State.memoryProbe view addr) := by
  intro s
  have hstaged : ∀ p, s.KeepsLaws (s.probeStaged p) := by
    intro p
    unfold State.probeStaged
    split
    · exact State.reply_lawful _ _ s
    · exact .of_windows_eq rfl
  unfold State.memoryProbe
  split
  · split
    · exact State.refuse_lawful _ s
    · exact hstaged _
  · exact State.refuse_lawful _ s

/-! ### The service link -/

theorem onEmpty_lawful {op : State → State} (h : Lawful op) (p : List Byte) : Lawful (onEmpty op p) := by
  unfold onEmpty
  split
  · exact h
  · exact State.refuse_lawful _

theorem onByte_lawful {op : Byte → State → State} (h : ∀ b, Lawful (op b)) (p : List Byte) : Lawful (onByte op p) := by
  unfold onByte
  split
  · exact h _
  · exact State.refuse_lawful _

theorem onDescriptor_lawful (p : List Byte) : Lawful (onDescriptor p) := by
  unfold onDescriptor
  split
  · exact State.windowSet_lawful _
  · exact State.refuse_lawful _

theorem onClear_lawful (p : List Byte) : Lawful (onClear p) := by
  unfold onClear
  split
  · split
    · exact State.clearRetry_lawful _
    · split
      · exact State.clearAbandon_lawful _
      · exact State.refuse_lawful _
  · exact State.refuse_lawful _

theorem onDiscard_lawful (p : List Byte) : Lawful (onDiscard p) := by
  unfold onDiscard
  split
  · split
    · exact State.onActiveHeld_lawful _ State.discardTargetOpen_lawful
    · split
      · exact State.onActiveHeld_lawful _ State.discardTargetWaiting_lawful
      · split
        · exact State.onActiveHeld_lawful _ State.discardTargetQueued_lawful
        · exact State.refuse_lawful _
  · exact State.refuse_lawful _

theorem State.replyGate_lawful : Lawful State.replyGate := fun s => State.reply_lawful .ok _ s

theorem onGate_lawful (p : List Byte) : Lawful (onGate p) := by
  unfold onGate
  split
  · split
    · exact State.replyGate_lawful
    · split
      · exact State.setGate_lawful _
      · split
        · exact State.setGate_lawful _
        · exact State.refuse_lawful _
  · exact State.refuse_lawful _

theorem onTimer_lawful (p : List Byte) : Lawful (onTimer p) := by
  unfold onTimer
  split
  · exact State.timerSet_lawful _ _ _ _
  · exact State.refuse_lawful _

theorem onLimits_lawful (p : List Byte) : Lawful (onLimits p) := by
  unfold onLimits
  split
  · split
    · exact State.limitsSet_lawful _ _ _ _
    · exact State.refuse_lawful _
  · exact State.refuse_lawful _

theorem onProbe_lawful (p : List Byte) : Lawful (onProbe p) := by
  unfold onProbe
  split
  · split
    · exact State.memoryProbe_lawful _ _
    · split
      · exact State.memoryProbe_lawful _ _
      · exact State.refuse_lawful _
  · exact State.refuse_lawful _

theorem onPartReset_lawful (p : List Byte) : Lawful (onPartReset p) := by
  unfold onPartReset
  split
  · split
    · exact State.partResetBatches_lawful
    · split
      · exact State.partResetFull_lawful
      · exact State.refuse_lawful _
  · exact State.refuse_lawful _

/-- Every row of the command table keeps the laws, whatever its payload. -/
theorem commandTable_lawful : ∀ row ∈ commandTable, ∀ p, Lawful (row.2 p) := by
  simp only [commandTable, List.forall_mem_cons]
  exact ⟨onEmpty_lawful fun s => State.reply_lawful .ok _ s, onDescriptor_lawful, onByte_lawful State.windowDrop_lawful,
    onByte_lawful State.windowRead_lawful, onClear_lawful,
    onByte_lawful fun i => State.onActiveHeld_lawful i State.closeOpen_lawful, onDiscard_lawful,
    onByte_lawful State.batchList_lawful, onByte_lawful State.undoRead_lawful, onGate_lawful, onTimer_lawful, onLimits_lawful,
    onEmpty_lawful State.limitsRead_lawful, onEmpty_lawful fun s => State.reply_lawful .ok _ s,
    onEmpty_lawful State.reportsTake_lawful, onProbe_lawful, onPartReset_lawful, nofun⟩

theorem dispatch_lawful (code : Byte) (p : List Byte) : Lawful (dispatch code p) := by
  unfold dispatch
  split
  · next row hrow => exact commandTable_lawful row (List.mem_of_find?_eq_some hrow) p
  · exact State.refuse_lawful _

theorem State.dropRequest_lawful : Lawful State.dropRequest := fun _ => .of_windows_eq rfl

theorem State.badFrame_lawful (tag : Byte) : Lawful (State.badFrame tag) := by
  intro s
  unfold State.badFrame
  dsimp only
  split
  · exact (State.endFrame_lawful s).frame rfl
  · exact .andThen (State.endFrame_lawful s) State.dropRequest_lawful

theorem State.decideFrame_lawful (f : RequestFrame) : Lawful (State.decideFrame f) := by
  intro s
  unfold State.decideFrame
  split
  · exact State.takeRequest_lawful (dispatch_lawful f.code f.payload) f.tag f.code f.payload s
  · exact State.badFrame_lawful f.tag s

theorem State.requestFrame_lawful (frame : List Byte) : Lawful (State.requestFrame frame) := by
  intro s
  unfold State.requestFrame
  split
  · split
    · exact State.decideFrame_lawful _ s
    · exact .andThen (State.endFrame_lawful s) State.dropRequest_lawful
  · exact .refl s

theorem State.dropOpenRequest_lawful : Lawful State.dropOpenRequest := by
  intro s
  unfold State.dropOpenRequest
  split
  · split
    · exact .refl s
    · exact .andThen (State.endFrame_lawful s) State.dropRequest_lawful
  · exact .refl s

theorem State.ssnFalls_lawful : Lawful State.ssnFalls := by
  intro s
  unfold State.ssnFalls
  split <;> exact .of_windows_eq rfl

theorem State.beginCollect_lawful : Lawful State.beginCollect := by
  intro s
  unfold State.beginCollect
  split <;> exact .of_windows_eq rfl

theorem State.decideAtRise_lawful (received : List Byte) : Lawful (State.decideAtRise received) := by
  intro s
  unfold State.decideAtRise
  split
  · split
    · exact State.beginCollect_lawful s
    · split
      · split
        · split
          · exact State.decideFrame_lawful _ s
          · exact State.badFrame_lawful _ s
        · exact .andThen (State.endFrame_lawful s) State.dropRequest_lawful
      · exact .refl s
  · exact .refl s

theorem State.endCollect_lawful (received : List Byte) : Lawful (State.endCollect received) := by
  intro s
  unfold State.endCollect
  (repeat' split) <;> exact .of_windows_eq rfl

theorem State.ssnRise_lawful (received : List Byte) : Lawful (State.ssnRise received) := by
  intro s
  unfold State.ssnRise
  split
  · exact (State.KeepsLaws.andThen (State.decideAtRise_lawful received s) (State.endCollect_lawful received)).frame rfl
  · exact .refl s

/-! ### Every step -/

/-- A row that answers `f s` outright keeps the laws when `f` does. -/
theorem State.KeepsLaws.of_next {f : State → State} (hf : Lawful f) {s t : State}
    (h : Host.Outcome.next (φ := Fault) (ρ := Refusal) (f s) = .next t) : s.KeepsLaws t := by
  cases h
  exact hf s

theorem State.setPins_lawful (p : Pins → Pins) : Lawful fun s => { s with pins := p s.pins } := fun _ => .of_windows_eq rfl

/-- A row that is one thing while RESETN is asserted and an event otherwise keeps the laws when both do. -/
theorem rowInReset_keepsLaws {f g : State → State} (hg : Lawful g) (hf : Lawful f) {s t : State}
    (h : (if s.pins.resetn then .next (g s) else event f s) = .next t) : s.KeepsLaws t := by
  split at h
  · exact .of_next hg h
  · exact event_keepsLaws hf h

/-- Whatever command it carries out, the device keeps each of the three laws. -/
theorem exec_keepsLaws (c : Instr) {s t : State} (h : exec c s = .next t) : s.KeepsLaws t := by
  cases c with
  | powerOnReset => cases h; exact .of_resetWindows rfl
  | resetnDeasserted =>
    simp only [exec, execResetnDeasserted] at h
    split at h
    · exact .of_next (f := fun u => u.leaveReset.judgeAttn) (fun _ => .of_windows_eq rfl) h
    · exact .of_next .refl h
  | urstnAsserted =>
    exact rowInReset_keepsLaws (State.setPins_lawful fun p => { p with urstn := true }) State.updateReset_lawful h
  | urstnDeasserted =>
    exact rowInReset_keepsLaws (State.setPins_lawful fun p => { p with urstn := false })
      (State.setPins_lawful fun p => { p with urstn := false }) h
  | crstnAsserted =>
    exact rowInReset_keepsLaws (State.setPins_lawful fun p => { p with crstn := true }) State.cycleReset_lawful h
  | crstnDeasserted =>
    exact rowInReset_keepsLaws (State.setPins_lawful fun p => { p with crstn := false })
      (State.setPins_lawful fun p => { p with crstn := false }) h
  | updateTransactionTaken r =>
    exact rowInReset_keepsLaws (g := State.presentUpdate r) (fun _ => .of_windows_eq rfl) (State.requestUpdate_lawful r) h
  | heldWriteReconsidered =>
    simp only [exec, execHeldWriteReconsidered] at h
    split at h
    · exact .of_next .refl h
    · exact .of_next (fun s => .andThen (State.settleWrite_lawful s) State.judgeAttn_lawful) h
  | writeHoldExpired => exact event_keepsLaws State.holdRunsOut_lawful h
  | cycleTransactionTaken r =>
    exact rowInReset_keepsLaws (g := State.presentCycle r) (fun _ => .of_windows_eq rfl) (State.requestCycle_lawful r) h
  | qualifyStart line => exact rowInReset_keepsLaws (State.lineInReset_lawful line true) (State.lineRises_lawful line) h
  | pulseDropped line => exact rowInReset_keepsLaws (State.lineInReset_lawful line false) (State.lineFalls_lawful line) h
  | pulseAccepted line => exact event_keepsLaws (State.lineQualifies_lawful line) h
  | periodEnd => exact event_keepsLaws State.periodEnds_lawful h
  | commitStart => exact event_keepsLaws State.startCommit_lawful h
  | grant => exact event_keepsLaws State.grantNext_lawful h
  | memoryAnswer ans => exact event_keepsLaws (State.endAccess_lawful _) h
  | accessTimeout => exact event_keepsLaws State.timeOut_lawful h
  | lateAnswer ans => exact .of_next .refl h
  | fullResetComplete =>
    simp only [exec, execFullResetComplete] at h
    split at h
    · exact .of_next .refl h
    · exact .of_next (fun s => .andThen (State.settleWork_lawful s) State.judgeAttn_lawful) h
  | idleTimerRunOut => exact event_keepsLaws State.idleRunsOut_lawful h
  | linkTransactionStart =>
    exact rowInReset_keepsLaws (State.setPins_lawful fun p => { p with ssn := true }) State.ssnFalls_lawful h
  | requestFrameDecided frame => exact event_keepsLaws (State.requestFrame_lawful frame) h
  | requestDropped => exact event_keepsLaws State.dropOpenRequest_lawful h
  | collect => exact event_keepsLaws State.beginCollect_lawful h
  | ssnRises received bits =>
    exact rowInReset_keepsLaws (g := State.ssnHigh) (fun _ => .of_windows_eq rfl) (State.ssnRise_lawful received) h
  | ident tag => exact request_keepsLaws (State.reply_lawful .ok identPayload) h
  | windowSet tag args => exact request_keepsLaws (State.windowSet_lawful args) h
  | windowDrop tag index => exact request_keepsLaws (State.windowDrop_lawful index) h
  | windowRead tag index => exact request_keepsLaws (State.windowRead_lawful index) h
  | windowClearRetry tag index => exact request_keepsLaws (State.clearRetry_lawful index) h
  | windowClearAbandon tag index => exact request_keepsLaws (State.clearAbandon_lawful index) h
  | batchClose tag index => exact request_keepsLaws (State.onActiveHeld_lawful index State.closeOpen_lawful) h
  | batchDiscardOpen tag index =>
    exact request_keepsLaws (State.onActiveHeld_lawful index State.discardTargetOpen_lawful) h
  | batchDiscardWaiting tag index =>
    exact request_keepsLaws (State.onActiveHeld_lawful index State.discardTargetWaiting_lawful) h
  | batchDiscardQueued tag index =>
    exact request_keepsLaws (State.onActiveHeld_lawful index State.discardTargetQueued_lawful) h
  | batchList tag index => exact request_keepsLaws (State.batchList_lawful index) h
  | undoRead tag start => exact request_keepsLaws (State.undoRead_lawful start) h
  | gateHold tag => exact request_keepsLaws (State.setGate_lawful .held) h
  | gateOpen tag => exact request_keepsLaws (State.setGate_lawful .opened) h
  | gateRead tag => exact request_keepsLaws State.replyGate_lawful h
  | timerSetMode tag mode period qa qb => exact request_keepsLaws (State.timerSet_lawful _ _ _ _) h
  | timerSetPeriod tag period qa qb => exact request_keepsLaws (State.timerSet_lawful _ _ _ _) h
  | timerSetQualifyA tag qa qb => exact request_keepsLaws (State.timerSet_lawful _ _ _ _) h
  | timerSetQualifyB tag qb => exact request_keepsLaws (State.timerSet_lawful _ _ _ _) h
  | timerSettingsRead tag => exact request_keepsLaws (State.timerSet_lawful _ _ _ _) h
  | limitsSetWriteHoldLimit tag limit timeout watermark idle => exact request_keepsLaws (State.limitsSet_lawful _ _ _ _) h
  | limitsSetMemoryAccessTimeout tag timeout watermark idle => exact request_keepsLaws (State.limitsSet_lawful _ _ _ _) h
  | limitsSetWatermark tag watermark idle => exact request_keepsLaws (State.limitsSet_lawful _ _ _ _) h
  | limitsSetIdleTime tag idle => exact request_keepsLaws (State.limitsSet_lawful _ _ _ _) h
  | limitsRead tag => exact request_keepsLaws State.limitsRead_lawful h
  | countersRead tag => exact request_keepsLaws (op := State.countersRead) (fun s => State.reply_lawful .ok _ s) h
  | reportsTake tag => exact request_keepsLaws State.reportsTake_lawful h
  | memoryProbeMemory tag addr => exact request_keepsLaws (State.memoryProbe_lawful .memory addr) h
  | memoryProbeUpdate tag addr => exact request_keepsLaws (State.memoryProbe_lawful .update addr) h
  | partResetBatches tag => exact request_keepsLaws State.partResetBatches_lawful h
  | partResetFull tag => exact request_keepsLaws State.partResetFull_lawful h

theorem State.microsecond_lawful : Lawful State.microsecond := fun s =>
  State.KeepsLaws.trans (State.elapse_lawful 1 s) (State.judgeAttn_lawful _)

theorem idleStep_keepsLaws {s t : State} (h : idleStep s = .next t) : s.KeepsLaws t := by
  unfold idleStep at h
  split at h
  · exact .of_next State.microsecond_lawful h
  · split at h
    · exact .of_next (fun s => .andThen (State.settle_lawful s) State.judgeAttn_lawful) h
    · split at h
      · exact exec_keepsLaws _ h
      · exact .of_next State.microsecond_lawful h

theorem step_keepsLaws {s t : State} (h : step s = .next t) : s.KeepsLaws t := by
  unfold step at h
  split at h
  · next c rest _ =>
    have hqueue : s.KeepsLaws { s with pending := rest } := .of_windows_eq rfl
    exact hqueue.trans (exec_keepsLaws c h)
  · exact idleStep_keepsLaws h

/-! ### The laws after reset, and the decode of an address -/

theorem State.reset_win (i : WIdx) : State.reset.win i = Window.reset := by
  simp [State.win, State.reset, State.powerOn, resetWindows]

theorem State.reset_windowLaw : State.reset.windowLaw := by
  constructor
  · intro i d hd
    rw [State.reset_win] at hd
    cases hd
  · intro i j _ d hd
    rw [State.reset_win] at hd
    cases hd

theorem Window.reset_batchLaw : Window.reset.batchLaw := by
  refine ⟨⟨List.nodup_nil, nofun⟩, Nat.zero_le 4, nofun, nofun⟩

theorem State.reset_capacityLaw : State.reset.capacityLaw := by
  have hnone : State.reset.inUse = 0 := rfl
  rw [State.capacityLaw, hnone]
  exact Nat.zero_le 256

theorem Place.desc_eq_some {p : Place} {d : Descriptor} : p.desc = some d ↔ p = .active d ∨ p = .faulted d := by
  cases p <;> simp [Place.desc]

theorem Descriptor.covers_iff (d : Descriptor) (a : Word) :
    d.covers a = true ↔ d.base.toNat ≤ a.toNat ∧ a.toNat < d.base.toNat + d.size.toNat := by
  simp only [Descriptor.covers, Bool.and_eq_true, decide_eq_true_eq]

theorem Place.hits_iff_desc {p : Place} {a : Word} : p.hits a = true ↔ ∃ d, p.desc = some d ∧ d.covers a = true := by
  unfold Place.hits
  split
  · next d hd => simp [hd]
  · next hd => simp [hd]

/-- A place covers an address exactly when a window is installed there whose addresses hold it (R2). -/
theorem Place.hits_iff (p : Place) (a : Word) : p.hits a = true ↔ ∃ d, (p = .active d ∨ p = .faulted d) ∧
    d.base.toNat ≤ a.toNat ∧ a.toNat < d.base.toNat + d.size.toNat := by
  simp only [Place.hits_iff_desc, Place.desc_eq_some, Descriptor.covers_iff]

/-- Two windows that cover one address overlap. -/
theorem Descriptor.overlaps_of_covers {d e : Descriptor} {a : Word} (hd : d.covers a = true) (he : e.covers a = true) :
    d.overlaps e = true := by
  obtain ⟨hd₁, hd₂⟩ := (Descriptor.covers_iff d a).1 hd
  obtain ⟨he₁, he₂⟩ := (Descriptor.covers_iff e a).1 he
  simp only [Descriptor.overlaps, Bool.and_eq_true, decide_eq_true_eq]
  omega

/-- Under the window law an address is covered by at most one window (R13). -/
theorem State.windowLaw.hits_unique {s : State} (hs : s.windowLaw) {a : Word} {i j : WIdx}
    (hi : (s.win i).place.hits a = true) (hj : (s.win j).place.hits a = true) : i = j := by
  obtain ⟨d, hd, hda⟩ := Place.hits_iff_desc.1 hi
  obtain ⟨e, he, hea⟩ := Place.hits_iff_desc.1 hj
  refine Decidable.byContradiction fun hij => ?_
  have hclear := hs.2 i j hij d hd
  simp only [Place.clashes, he, Descriptor.overlaps_of_covers hda hea] at hclear
  cases hclear

/-- Under the window law an address decodes to the window that covers it (R11). -/
theorem State.windowLaw.decodeAddr_of_hits {s : State} (hs : s.windowLaw) {a : Word} {i : WIdx}
    (hi : (s.win i).place.hits a = true) : s.decodeAddr a = (s.win i).place.decodeAs i := by
  unfold State.decodeAddr
  split
  · next j hj =>
    have hja := List.find?_some hj
    rw [hs.hits_unique hi hja]
  · next hnone => exact absurd hi (List.find?_eq_none.1 hnone i (mem_allWindows i))

theorem State.decodeAddr_of_no_hit {s : State} {a : Word} (h : ∀ i, (s.win i).place.hits a = false) :
    s.decodeAddr a = .unmapped := by
  have hnone : allWindows.find? (fun i => (s.win i).place.hits a) = none :=
    List.find?_eq_none.2 fun i _ => by rw [h i]; exact Bool.false_ne_true
  simp only [State.decodeAddr, hnone]

/-- Settles O58: a step is a chain of operations each of which keeps the three laws, and under the window law the windows that cover an
address are one. -/
theorem windowAndStagingLawsKept : Obligations.WindowAndStagingLawsKept := by
  refine ⟨fun s t h hstep => (step_keepsLaws hstep).windows h, fun s t h hstep => (step_keepsLaws hstep).batches h,
    fun s t h hstep => (step_keepsLaws hstep).capacity h, fun a i j s hs hi hj => hs.hits_unique hi hj, fun a i s hs hi => ?_,
    fun a s h => State.decodeAddr_of_no_hit h, Place.hits_iff, State.reset_windowLaw, fun i => ?_, State.reset_capacityLaw⟩
  · rw [hs.decodeAddr_of_hits hi]
    rfl
  · rw [State.reset_win]; exact Window.reset_batchLaw

end Sys2Proof.Machine
end

section
/-! SUPPORT. The power-on values and the window commands: WINDOW_SET, WINDOW_DROP, WINDOW_READ, BATCH_LIST and UNDO_READ (R1, R12
to R17, R40, R115). -/

namespace Sys2Proof.Machine

/-! ### What a service command answers -/

/-- The state in which a command has been taken into the IDLE slot and acts. -/
def State.inSlot (tag code : Byte) (p : List Byte) (s : State) : State :=
  { s with svc := { s.endFrame.svc with slot := .working tag code p } }

/-- Whether a link transaction's frame is still to be decided is a matter of the Service Link Unit alone. -/
theorem State.endFrame_svc_congr {s t : State} (h : t.svc = s.svc) : t.endFrame.svc = s.endFrame.svc := by
  unfold State.endFrame
  rw [h]
  split
  · split
    · rfl
    · exact h
  · exact h

/-- A command whose act is a reply over a change that leaves the Service Link Unit alone answers that change. -/
theorem event_takeRequest_answered {op : State → State} {tag code : Byte} {p q : List Byte} {r : Result} {s t : State}
    (h : s.takesCommands) (ht : t.svc = s.svc)
    (hop : op (s.inSlot tag code p) = State.reply r q { t with svc := (s.inSlot tag code p).svc }) :
    event (State.takeRequest tag code p op) s = .next (State.answered tag r q t) := by
  rw [event_takeRequest _ _ _ _ _ h]
  change Host.Outcome.next (op (s.inSlot tag code p)).judgeAttn = _
  rw [hop, State.reply_working r q _ tag code p rfl, State.answered, State.endFrame_svc_congr ht]
  rfl

/-- A command whose act is a reply alone leaves the state answered. -/
theorem event_takeRequest_only_answered {op : State → State} {tag code : Byte} {p q : List Byte} {r : Result} {s : State}
    (h : s.takesCommands) (hop : op (s.inSlot tag code p) = (s.inSlot tag code p).reply r q) :
    event (State.takeRequest tag code p op) s = .next (State.answered tag r q s) :=
  event_takeRequest_answered h rfl hop

/-! ### Power-on reset -/

/-- Settles O5: the state is built of each block's own power-on values, and both sides compute to them. -/
theorem powerOnReset : Obligations.PowerOnReset := ⟨fun _ => rfl, rfl⟩

/-! ### WINDOW_SET -/

/-- Refutes O49: a PASS window of 64 bytes whose update access code is 3 is out of range by check 3 of R12, and WINDOW_SET takes it. In
the body of `Access.ofCode` the last `none` is `Access.none` and not the absent option, so no access code is refused. -/
theorem not_windowSet : ¬ Obligations.WindowSet := by
  rintro ⟨-, -, -, -, -, -, hchecks, -⟩
  obtain ⟨a, hcode, htaken⟩ : ∃ a : WindowSetArgs, a.updateAccess = 3 ∧
      setDescriptor a = some ⟨0, 64, .pass, .none, .none, .off, false⟩ :=
    ⟨⟨0, 0, 64, 0, 3, 0, 0, 0, 0, 0, 0, 0, 0⟩, rfl, by decide⟩
  have hcheck := hchecks a
  rw [htaken] at hcheck
  have hrange : a.updateAccess.toNat ≤ 2 := (of_decide_eq_true hcheck.symm).2.1
  rw [hcode] at hrange
  exact absurd hrange (by decide)

/-! ### WINDOW_DROP -/

theorem State.faultHeldOf_eq (i : WIdx) (s : State) : s.faultHeldOf i = { s with upd := s.updFaulted i } := by
  unfold State.faultHeldOf State.updFaulted
  cases s.upd.state with
  | held x f t => by_cases hx : x.window = i <;> simp only [hx, if_true, if_false] <;> rfl
  | idle => rfl
  | requested t => rfl
  | atMemory t => rfl
  | draining t => rfl

/-- Records handed over one after another. -/
theorem State.foldl_record {α : Type} (f : α → RecordBody) (l : List α) (s : State) :
    l.foldl (fun t x => t.record (f x)) s = { s with rep := (l.map f).foldl ReportUnit.take s.rep } := by
  induction l generalizing s with
  | nil => rfl
  | cons x l ih => rw [List.foldl_cons, ih]; rfl

/-- What a window's discard does: its open batch and its CLOSED batches leave, each with its record (R15, R114). -/
theorem State.discardClosed_discardOpen (i : WIdx) (cause : DiscardCause) (s : State) :
    (s.discardOpen i cause).discardClosed i cause =
      { s.setWin i { s.win i with openBatch := none, waiting := (s.win i).waiting.filter (·.state != .closed) } with
        rep := (discardRecords i cause (s.win i)).foldl ReportUnit.take s.rep } := by
  unfold State.discardClosed
  rw [State.foldl_record (fun b : WaitBatch => .batchDiscarded i b.id cause)]
  unfold State.discardOpen
  cases hopen : (s.win i).openBatch with
  | none => simp [discardRecords, hopen, Window.closedBatches, State.mapWin_eq_setWin]
  | some b => cases b <;>
      simp [discardRecords, hopen, Window.closedBatches, State.mapWin_eq_setWin, State.emptySlot, OpenBatch.id]

theorem discardRecords_length (i : WIdx) (cause : DiscardCause) (w : Window) :
    (discardRecords i cause w).length = w.discardable := by
  rcases hopen : w.openBatch with _ | (_ | _) <;>
    simp [discardRecords, Window.discardable, Window.closedBatches, hopen, Nat.add_comm]

section
variable {index : Byte} {i : WIdx} {d : Descriptor} {s : State}

theorem State.windowDrop_badIndex (h : windowIndex index = none) : s.windowDrop index = s.refuse .badArgument := by
  simp only [State.windowDrop, h]

theorem State.windowDrop_free (hi : windowIndex index = some i) (hp : (s.win i).place = .free) :
    s.windowDrop index = s.refuse .noWindow := by
  simp only [State.windowDrop, hi, hp]

theorem State.windowDrop_faulted (hi : windowIndex index = some i) (hp : (s.win i).place = .faulted d) :
    s.windowDrop index = s.refuse .faulted := by
  simp only [State.windowDrop, hi, hp]

theorem State.windowDrop_busy (hi : windowIndex index = some i) (hp : (s.win i).place = .active d)
    (hidle : (s.win i).idle = false) : s.windowDrop index = s.refuse .inUse := by
  simp only [State.windowDrop, hi, hp, hidle, Bool.false_eq_true, if_false]

/-- Nothing is left of the waiting list of an idle window once its CLOSED batches have gone. -/
theorem Window.filter_of_idle {w : Window} (h : w.idle = true) : w.waiting.filter (·.state != .closed) = [] := by
  simpa [Window.idle] using h

/-- WINDOW_DROP's effect on an idle ACTIVE window (R15). -/
theorem State.windowDrop_idle (hi : windowIndex index = some i) (hp : (s.win i).place = .active d)
    (hidle : (s.win i).idle = true) :
    s.windowDrop index = State.reply .ok [num8 (discardRecords i .windowDropped (s.win i)).length]
      { s.setWin i ⟨.free, (s.win i).counters, none, []⟩ with
        upd := s.updFaulted i
        rep := (discardRecords i .windowDropped (s.win i)).foldl ReportUnit.take s.rep } := by
  have hwin : ∀ u : UpdateUnit, State.win { s with upd := u } i = s.win i := fun _ => rfl
  simp only [State.windowDrop, hi, hp, hidle, if_true, State.faultHeldOf_eq, State.discardClosed_discardOpen, hwin,
    discardRecords_length, Window.filter_of_idle hidle]
  congr 1
  simp [State.freePlace, State.mapWin, State.setWin, State.win]

end

/-- Settles O50: the four checks of WINDOW_DROP one after another, and then its effect. -/
theorem windowDrop : Obligations.WindowDrop := by
  refine ⟨?_, ?_, ?_, ?_, ?_⟩
  · intro tag index s h hi
    exact event_takeRequest_only_answered h (State.windowDrop_badIndex (windowIndex_eq_none hi))
  · intro tag index i s h hi hp
    exact event_takeRequest_only_answered h (State.windowDrop_free (windowIndex_eq_some hi) hp)
  · intro tag index i d s h hi hp
    exact event_takeRequest_only_answered h (State.windowDrop_faulted (windowIndex_eq_some hi) hp)
  · intro tag index i d s h hi hp hbusy
    have hidle : (s.win i).idle = false := by simpa [Window.idle] using hbusy
    exact event_takeRequest_only_answered h (State.windowDrop_busy (windowIndex_eq_some hi) hp hidle)
  · intro tag index i d s h hi hp hidle
    exact event_takeRequest_answered h rfl (State.windowDrop_idle (windowIndex_eq_some hi) hp hidle)

/-! ### WINDOW_READ, BATCH_LIST and UNDO_READ -/

theorem Descriptor.isHeld_iff {d : Descriptor} : d.isHeld = true ↔ d.cls ≠ .pass := by
  unfold Descriptor.isHeld
  cases d.cls <;> simp [WindowClass.fields]

theorem indexByte_eq {index : Byte} {i : WIdx} (h : index.toNat = i.val) : indexByte i = index := by
  rw [indexByte, num8, ← h, BitVec.ofNat_toNat, BitVec.setWidth_eq]

section
variable {index : Byte} {i : WIdx} {d : Descriptor} {s : State}

theorem State.windowRead_badIndex (h : windowIndex index = none) : s.windowRead index = s.refuse .badArgument := by
  simp only [State.windowRead, h]

theorem State.windowRead_free (hi : windowIndex index = some i) (hp : (s.win i).place = .free) :
    s.windowRead index = s.refuse .noWindow := by
  simp only [State.windowRead, hi, hp]

/-- WINDOW_READ of an installed window, with its status byte as the place gives it (R17). -/
theorem State.windowRead_installed (hi : windowIndex index = some i)
    (hp : (s.win i).place = .active d ∨ (s.win i).place = .faulted d) :
    s.windowRead index = s.reply .ok
      ([indexByte i, if (s.win i).place = .active d then 0x01 else 0x02] ++ d.bytes ++ (s.win i).counters.bytes) := by
  rcases hp with hp | hp
  · simp only [State.windowRead, hi, hp, windowReadPayload, Bool.false_eq_true, if_false, if_true]
  · simp only [State.windowRead, hi, hp, windowReadPayload, if_true, reduceCtorEq, if_false]

theorem State.batchList_badIndex (h : windowIndex index = none) : s.batchList index = s.refuse .badArgument := by
  simp only [State.batchList, h]

theorem State.batchList_free (hi : windowIndex index = some i) (hp : (s.win i).place = .free) :
    s.batchList index = s.refuse .noWindow := by
  simp only [State.batchList, hi, hp, Place.desc]

/-- BATCH_LIST of an installed window, whether FAULTED or not (R40). -/
theorem State.batchList_installed (hi : windowIndex index = some i)
    (hp : (s.win i).place = .active d ∨ (s.win i).place = .faulted d) :
    s.batchList index = if d.cls = .pass then s.refuse .notHeld
      else s.reply .ok (batchListPayload i (s.win i) s.inUse s.upd.state) := by
  simp only [State.batchList, hi, Place.desc_eq_some.2 hp]
  by_cases hpass : d.cls = .pass
  · rw [if_pos hpass, if_neg fun hheld => Descriptor.isHeld_iff.1 hheld hpass]
  · rw [if_neg hpass, if_pos (Descriptor.isHeld_iff.2 hpass)]

end

section
variable {start : Byte} {s : State}

theorem State.undoRead_badStart (h : Config.undoRecords ≤ start.toNat) : s.undoRead start = s.refuse .badArgument :=
  if_neg (Nat.not_lt.2 h)

theorem State.undoRead_notHalted (h : start.toNat < Config.undoRecords) (he : s.engine.state ≠ .halted) :
    s.undoRead start = s.refuse .none := by
  rw [State.undoRead, if_pos h]
  split
  · next he' _ => exact absurd he' he
  · rfl

theorem State.undoRead_halted {c : FaultContext} (h : start.toNat < Config.undoRecords) (he : s.engine.state = .halted)
    (hc : s.engine.context = some c) : s.undoRead start = s.reply .ok (undoReadPayload c s.engine.undo start) := by
  rw [State.undoRead, if_pos h, he, hc]

end

/-- The descriptor's bytes in a payload are 21 (R184). -/
theorem Descriptor.bytes_length (d : Descriptor) : d.bytes.length = 21 := by
  have hclass : (classBytes d.cls).length = 8 := by cases d.cls <;> rfl
  simp [Descriptor.bytes, be32, hclass]

/-- Settles O48: what each of the three commands answers, and then the layouts and codes of R181 and R185. -/
theorem windowReadBatchListUndoRead : Obligations.WindowReadBatchListUndoRead := by
  refine ⟨?_, ?_, ?_, ?_, ?_, ?_, ?_, ?_, ?_⟩
  · intro tag index s h hi
    exact ⟨event_takeRequest_only_answered h (State.windowRead_badIndex (windowIndex_eq_none hi)),
      event_takeRequest_only_answered h (State.batchList_badIndex (windowIndex_eq_none hi))⟩
  · intro tag index i s h hi hp
    exact ⟨event_takeRequest_only_answered h (State.windowRead_free (windowIndex_eq_some hi) hp),
      event_takeRequest_only_answered h (State.batchList_free (windowIndex_eq_some hi) hp)⟩
  · intro tag index i d s h hi hp
    rw [← indexByte_eq hi]
    exact event_takeRequest_only_answered h (State.windowRead_installed (windowIndex_eq_some (indexByte_eq hi ▸ hi)) hp)
  · intro tag index i d s h hi hp
    have hact := State.batchList_installed (s := s.inSlot tag 0x22 [index]) (windowIndex_eq_some hi) hp
    split
    · next hpass => exact event_takeRequest_only_answered h (hact.trans (if_pos hpass))
    · next hheld =>
      rw [if_neg hheld, batchListPayload, indexByte_eq hi] at hact
      exact event_takeRequest_only_answered h hact
  · intro tag start s h hstart
    exact event_takeRequest_only_answered h (State.undoRead_badStart hstart)
  · intro tag start s h hstart he
    exact event_takeRequest_only_answered h (State.undoRead_notHalted hstart he)
  · intro tag start c s h hstart he hc
    exact event_takeRequest_only_answered h (State.undoRead_halted hstart he hc)
  · exact fun d c => ⟨by cases d; rfl, d.bytes_length, rfl⟩
  · exact ⟨rfl, rfl, rfl, rfl, rfl, rfl, rfl, rfl, rfl, rfl, rfl, rfl⟩

end Sys2Proof.Machine
end

section
/-! SUPPORT. What is owed to an event (R29, R34, R47, R97, R118; log 1), and the step on an empty queue (log 2). `State.settle` does the
owed work in the order reconsideration, completion, requests of the update port, requests of the cycle port; each part leaves nothing
of its own kind due and makes nothing due that an earlier part has done. -/

namespace Sys2Proof.Machine

/-! ### The batches that a change leaves as they are -/

/-- The batches of every window are the same in two states. -/
def State.SameBatches (s t : State) : Prop :=
  ∀ j, (t.win j).openBatch = (s.win j).openBatch ∧ (t.win j).waiting = (s.win j).waiting

theorem State.SameBatches.of_windows_eq {s t : State} (h : t.windows = s.windows) : s.SameBatches t := fun j => by
  rw [State.win, State.win, h]; exact ⟨rfl, rfl⟩

theorem State.SameBatches.mapWin (i : WIdx) (f : Window → Window) (s : State)
    (ho : (f (s.win i)).openBatch = (s.win i).openBatch) (hw : (f (s.win i)).waiting = (s.win i).waiting) :
    s.SameBatches (s.mapWin i f) := fun j => by
  by_cases hij : i = j
  · subst hij; rw [State.mapWin_win_same]; exact ⟨ho, hw⟩
  · rw [State.mapWin_win_other _ _ _ _ hij]; exact ⟨rfl, rfl⟩

/-- As many entries are in use where every window has as many. -/
theorem State.inUse_congr {s t : State} (h : ∀ j, (t.win j).inUse = (s.win j).inUse) : t.inUse = s.inUse :=
  Nat.le_antisymm (State.inUse_le fun j => Nat.le_of_eq (h j)) (State.inUse_le fun j => Nat.le_of_eq (h j).symm)

theorem State.SameBatches.inUse {s t : State} (h : s.SameBatches t) : t.inUse = s.inUse :=
  State.inUse_congr fun j => by rw [Window.inUse, Window.inUse, (h j).1, (h j).2]

/-- What opening a batch leaves of each window (R22, R26). -/
theorem State.openNew_win (i j : WIdx) (s : State) : (s.openNew i).win j =
    if i = j then { s.win i with openBatch := some (.gathering s.store.nextId []) } else s.win j :=
  State.setWin_win i j _ s

/-- Filling an empty slot opens a batch without entries, so it takes none. -/
theorem State.ensureOpen_inUse (i : WIdx) (s : State) : (s.ensureOpen i).inUse = s.inUse := by
  unfold State.ensureOpen
  split
  · rfl
  · next hopen =>
    refine State.inUse_congr fun j => ?_
    rw [State.openNew_win]
    split
    · next hij => subst hij; simp [Window.inUse, openEntries, hopen]
    · rfl

theorem State.ensureOpen_waiting (i j : WIdx) (s : State) : ((s.ensureOpen i).win j).waiting = (s.win j).waiting := by
  unfold State.ensureOpen
  split
  · rfl
  · rw [State.openNew_win]
    split
    · next hij => rw [hij]
    · rfl

/-! ### Conditions under which something is owed -/

theorem State.owes_eq_false {s : State} : s.owes = false ↔
    s.reconsiderDue = false ∧ s.fullResetDue = false ∧ s.updateTakeDue = false ∧ s.cycleTakeDue = false := by
  simp only [State.owes, Bool.or_eq_false_iff, and_assoc]

/-- No reconsideration is due where no write is held. -/
theorem State.reconsiderDue_of_notHeld {s : State} (h : s.upd.state.heldWrite = none) : s.reconsiderDue = false := by
  unfold State.reconsiderDue
  split
  · next hs => rw [hs] at h; cases h
  · next hs => rw [hs] at h; cases h
  · rfl

theorem State.reconsiderDue_congr {s t : State} (hu : t.upd = s.upd) (hb : s.SameBatches t) :
    t.reconsiderDue = s.reconsiderDue := by
  unfold State.reconsiderDue
  rw [hu, hb.inUse]
  split
  · rfl
  · next x _ _ => change (t.win x.window).hasRoom = (s.win x.window).hasRoom; rw [Window.hasRoom, Window.hasRoom, (hb _).2]
  · rfl

theorem State.fullResetDue_congr {s t : State} (h : t.engine.fullReset = s.engine.fullReset)
    (hs : t.engine.state = s.engine.state) : t.fullResetDue = s.fullResetDue := by
  rw [State.fullResetDue, State.fullResetDue, h, hs]

/-- No request is due to be taken at an update port where none waits. -/
theorem State.updateTakeDue_of_nil {s : State} (h : s.upd.waiting = []) : s.updateTakeDue = false := by
  simp [State.updateTakeDue, h]

theorem State.updateTakeDue_of_busy {s : State} (h : s.updateReady = false) : s.updateTakeDue = false := by
  simp [State.updateTakeDue, h]

theorem State.cycleTakeDue_of_nil {s : State} (h : s.cyc.waiting = []) : s.cycleTakeDue = false := by
  simp [State.cycleTakeDue, h]

theorem State.cycleTakeDue_of_busy {s : State} (h : s.cycleReady = false) : s.cycleTakeDue = false := by
  simp [State.cycleTakeDue, h]

/-! ### What handing a write to the store leaves due -/

/-- A write is held only for a wait that stands (R25, R28, R34). -/
theorem verdict_hold {s : State} {r : Bool} {x : StagedWrite} {f : WaitsFor} (h : verdict s r x = .hold f) :
    (f = .listRoom ∧ (s.win x.window).hasRoom = false) ∨ (f = .stagingEntry ∧ 256 ≤ s.inUse) := by
  unfold verdict at h
  split at h
  · cases h
  · split at h <;> cases h
  · split at h
    · next hfull =>
      split at h
      · cases h
      · cases h; exact .inl ⟨rfl, by simpa using (Bool.and_eq_true_iff.1 hfull).2⟩
    · simp only [stageVerdict] at h
      split at h
      · cases h
      · split at h
        · cases h
        · split at h
          · next hstore =>
            simp only [fullVerdict] at h
            (repeat' split at h) <;> cases h <;> exact .inr ⟨rfl, hstore⟩
          · cases h

/-- Queueing from an IMMEDIATE window changes the commit queue alone of the engine. -/
theorem State.queueImmediate_engine (i : WIdx) (s : State) :
    (s.queueImmediate i).engine = { s.engine with queue := (s.queueImmediate i).engine.queue } := by
  unfold State.queueImmediate
  split
  · split
    · unfold State.queueFrom
      split <;> rfl
    · rfl
  · rfl

/-- What follows from a request taken, or a write decided, for the work that is owed: no reconsideration, a full reset as before, and
the requests that wait as before. -/
structure State.Decides (s t : State) : Prop where
  reconsider : t.reconsiderDue = false
  fullReset : t.fullResetDue = s.fullResetDue
  waiting : t.upd.waiting = s.upd.waiting

/-- A change that leaves the engine and the waiting requests, and holds no write. -/
theorem State.Decides.of_notHeld {s t : State} (hu : t.upd.state.heldWrite = none) (he : t.engine = s.engine)
    (hw : t.upd.waiting = s.upd.waiting) : s.Decides t :=
  ⟨State.reconsiderDue_of_notHeld hu, State.fullResetDue_congr (by rw [he]) (by rw [he]), hw⟩

theorem State.acceptWrite_decides (x : StagedWrite) (es : List Entry) (s : State) : s.Decides (s.acceptWrite x es) := by
  have hclosed : ∀ t : State, (t.closeBatch x.window (s.openId x.window) es .closingWrite).fullResetDue = t.fullResetDue ∧
      (t.closeBatch x.window (s.openId x.window) es .closingWrite).upd = t.upd := by
    intro t
    obtain ⟨-, -, hupd, -⟩ := State.closeBatch_frame x.window (s.openId x.window) es .closingWrite t
    refine ⟨?_, hupd⟩
    rw [State.closeBatch, State.fullResetDue, State.queueImmediate_engine]
    rfl
  unfold State.acceptWrite
  simp only []
  split <;> split
  · exact ⟨rfl, (hclosed _).1, by simp [(hclosed _).2]⟩
  · exact ⟨rfl, rfl, rfl⟩
  · exact ⟨rfl, (hclosed _).1, by simp [(hclosed _).2]⟩
  · exact ⟨rfl, rfl, rfl⟩

/-- A write handed to the store is held under a wait that stands, or has been answered. -/
theorem State.stageWrite_decides (x : StagedWrite) (timer : Option HoldTimer) (s : State) :
    s.Decides (s.stageWrite x timer) := by
  obtain ⟨-, hupd, -, -, heng, -⟩ := State.ensureOpen_frame x.window s
  have hwait : (s.ensureOpen x.window).upd.waiting = s.upd.waiting := by rw [hupd]
  unfold State.stageWrite
  simp only []
  cases hv : verdict (s.ensureOpen x.window) timer.isSome x with
  | accept es =>
    obtain ⟨hrec, hfull, hw⟩ := State.acceptWrite_decides x es (s.ensureOpen x.window)
    exact ⟨hrec, hfull.trans (State.fullResetDue_congr (by rw [heng]) (by rw [heng])), hw.trans hwait⟩
  | refuse => exact .of_notHeld rfl heng hwait
  | endSpoiled => exact .of_notHeld rfl heng hwait
  | spoil cause => exact .of_notHeld rfl heng hwait
  | hold f =>
    refine ⟨?_, State.fullResetDue_congr (congrArg Engine.fullReset heng) (congrArg Engine.state heng), hwait⟩
    rcases verdict_hold hv with ⟨rfl, hroom⟩ | ⟨rfl, hfull⟩
    · exact hroom
    · exact decide_eq_false (Nat.not_lt.2 hfull)

/-- The reconsidered write waits again, or no longer. -/
theorem State.reconsider_decides (s : State) (h : s.reconsiderDue = true) : s.Decides s.reconsider := by
  unfold State.reconsider
  split
  · exact State.stageWrite_decides _ _ s
  · next hs =>
    have hnot : s.reconsiderDue = false := by
      unfold State.reconsiderDue
      split
      · next x t heq => exact absurd heq (hs x _ t)
      · next x t heq => exact absurd heq (hs x _ t)
      · rfl
    rw [h] at hnot; cases hnot

/-! ### What taking a request leaves due -/

theorem State.forwardRead_decides (r : BusRequest) (d : Decode) (i : WIdx) (s : State) : s.Decides (s.forwardRead r d i) := by
  unfold State.forwardRead
  simp only []
  split <;> exact .of_notHeld rfl rfl rfl

theorem State.dispatchUpdate_decides (r : BusRequest) (d : Decode) (s : State) : s.Decides (s.dispatchUpdate r d) := by
  have hpass : s.Decides (s.passUpdate r d) := .of_notHeld rfl rfl rfl
  have hrefuse : ∀ i reason, s.Decides (s.refuseUpdate r i reason) := fun _ _ => .of_notHeld rfl rfl rfl
  cases d with
  | unmapped => exact hpass
  | faulted i => exact hrefuse i _
  | pass i access _ _ =>
    cases access with
    | readWrite => exact hpass
    | none => exact hrefuse i _
    | readOnly =>
      cases r with
      | read => exact hpass
      | write => exact hrefuse i _
  | held i access _ tap fields =>
    cases access with
    | none => exact hrefuse i _
    | readWrite =>
      cases r with
      | read => exact State.forwardRead_decides _ _ i s
      | write a data => exact State.stageWrite_decides ⟨a, data, i, tap, fields⟩ none s
    | readOnly =>
      cases r with
      | read => exact State.forwardRead_decides _ _ i s
      | write => exact hrefuse i _

theorem State.takeUpdate_decides (r : BusRequest) (s : State) : s.Decides (s.takeUpdate r) := by
  unfold State.takeUpdate
  simp only []
  split
  · obtain ⟨hrec, hfull, hw⟩ :=
      State.dispatchUpdate_decides r (s.decodeAddr (reqAddr r)) { s with upd := { s.upd with answer := none } }
    exact ⟨hrec, hfull, hw⟩
  · exact .of_notHeld rfl rfl rfl

/-- A change that leaves the batches, and the requests that wait at the cycle port. -/
structure State.LeavesBatches (s t : State) : Prop where
  batches : s.SameBatches t
  waiting : t.cyc.waiting = s.cyc.waiting

theorem State.placeCycle_leavesBatches (t : CycleTxn) (s : State) : s.LeavesBatches (s.placeCycle t) :=
  ⟨.of_windows_eq rfl, rfl⟩

theorem State.refuseCycle_leavesBatches (r : BusRequest) (i : WIdx) (reason : DenyReason) (s : State) :
    s.LeavesBatches (s.refuseCycle r i reason) :=
  ⟨.mapWin i (fun w => { w with counters := { w.counters with accessesDenied := satInc w.counters.accessesDenied } }) (s.record _)
    rfl rfl, rfl⟩

theorem State.readHeldWindow_leavesBatches (r : BusRequest) (d : Decode) (i : WIdx) (s : State) :
    s.LeavesBatches (s.readHeldWindow r d i) := by
  unfold State.readHeldWindow
  split <;> exact ⟨.of_windows_eq rfl, rfl⟩

theorem State.dispatchCycle_leavesBatches (r : BusRequest) (d : Decode) (s : State) :
    s.LeavesBatches (s.dispatchCycle r d) := by
  cases d with
  | unmapped => exact State.placeCycle_leavesBatches _ s
  | faulted i => exact State.refuseCycle_leavesBatches r i _ s
  | pass i _ access _ =>
    cases access with
    | readWrite => exact State.placeCycle_leavesBatches _ s
    | none => exact State.refuseCycle_leavesBatches r i _ s
    | readOnly =>
      cases r with
      | read => exact State.placeCycle_leavesBatches _ s
      | write => exact State.refuseCycle_leavesBatches _ i _ s
  | held i _ access _ _ =>
    cases r with
    | write => cases access <;> exact State.refuseCycle_leavesBatches _ i _ s
    | read =>
      cases access with
      | none => exact State.refuseCycle_leavesBatches _ i _ s
      | readOnly => exact State.readHeldWindow_leavesBatches _ _ i s
      | readWrite => exact State.readHeldWindow_leavesBatches _ _ i s

theorem State.takeCycle_leavesBatches (r : BusRequest) (s : State) : s.LeavesBatches (s.takeCycle r) := by
  unfold State.takeCycle
  simp only []
  split
  · obtain ⟨hb, hw⟩ :=
      State.dispatchCycle_leavesBatches r (s.decodeAddr (reqAddr r)) { s with cyc := { s.cyc with answer := none } }
    exact ⟨hb, hw⟩
  · exact ⟨.of_windows_eq rfl, rfl⟩

/-! ### Settling, part by part -/

theorem State.takeUpdates_of_notDue {s : State} (h : s.updateTakeDue = false) : s.takeUpdates s.upd.waiting = s := by
  cases hw : s.upd.waiting with
  | nil => rfl
  | cons r rest =>
    have hready : s.updateReady = false := by simpa [State.updateTakeDue, hw] using h
    simp [State.takeUpdates, hready]

theorem State.takeCycles_of_notDue {s : State} (h : s.cycleTakeDue = false) : s.takeCycles s.cyc.waiting = s := by
  cases hw : s.cyc.waiting with
  | nil => rfl
  | cons r rest =>
    have hready : s.cycleReady = false := by simpa [State.cycleTakeDue, hw] using h
    simp [State.takeCycles, hready]

/-- Taking the waiting requests of the update port leaves none of them due, and makes no other work due. -/
theorem State.takeUpdates_notDue (l : List BusRequest) (s : State) (hw : s.upd.waiting = l) (hr : s.reconsiderDue = false) :
    (s.takeUpdates l).reconsiderDue = false ∧ (s.takeUpdates l).fullResetDue = s.fullResetDue ∧
      (s.takeUpdates l).updateTakeDue = false := by
  induction l generalizing s with
  | nil => exact ⟨hr, rfl, State.updateTakeDue_of_nil hw⟩
  | cons r rest ih =>
    unfold State.takeUpdates
    split
    · obtain ⟨hrec, hfull, hwait⟩ := State.takeUpdate_decides r { s with upd := { s.upd with waiting := rest } }
      obtain ⟨hrec', hfull', hdue'⟩ := ih _ hwait hrec
      exact ⟨hrec', hfull'.trans hfull, hdue'⟩
    · next hbusy => exact ⟨hr, rfl, State.updateTakeDue_of_busy (Bool.eq_false_iff.2 hbusy)⟩

theorem State.takeCycle_due (r : BusRequest) (s : State) :
    (s.takeCycle r).reconsiderDue = s.reconsiderDue ∧ (s.takeCycle r).fullResetDue = s.fullResetDue ∧
      (s.takeCycle r).updateTakeDue = s.updateTakeDue := by
  obtain ⟨hpins, -, hupd, -, heng, -, -⟩ := State.takeCycle_frame r s
  refine ⟨State.reconsiderDue_congr hupd (State.takeCycle_leavesBatches r s).batches,
    State.fullResetDue_congr (by rw [heng]) (by rw [heng]), ?_⟩
  rw [State.updateTakeDue, State.updateTakeDue, State.updateReady, State.updateReady, hupd, hpins]

/-- Taking the waiting requests of the cycle port leaves none of them due, and what else is due as it was. -/
theorem State.takeCycles_notDue (l : List BusRequest) (s : State) (hw : s.cyc.waiting = l) :
    (s.takeCycles l).reconsiderDue = s.reconsiderDue ∧ (s.takeCycles l).fullResetDue = s.fullResetDue ∧
      (s.takeCycles l).updateTakeDue = s.updateTakeDue ∧ (s.takeCycles l).cycleTakeDue = false := by
  induction l generalizing s with
  | nil => exact ⟨rfl, rfl, rfl, State.cycleTakeDue_of_nil hw⟩
  | cons r rest ih =>
    unfold State.takeCycles
    split
    · obtain ⟨hrec, hfull, hupd⟩ := State.takeCycle_due r { s with cyc := { s.cyc with waiting := rest } }
      obtain ⟨hrec', hfull', hupd', hdue'⟩ :=
        ih _ (State.takeCycle_leavesBatches r { s with cyc := { s.cyc with waiting := rest } }).waiting
      exact ⟨hrec'.trans hrec, hfull'.trans hfull, hupd'.trans hupd, hdue'⟩
    · next hbusy => exact ⟨rfl, rfl, rfl, State.cycleTakeDue_of_busy (Bool.eq_false_iff.2 hbusy)⟩

/-- A full reset answers a held write and is pending no more (R178). -/
theorem State.completeReset_notDue (waited : Bool) (s : State) :
    (s.completeReset waited).reconsiderDue = false ∧ (s.completeReset waited).fullResetDue = false := by
  have hheld : s.faultHeld.upd.state.heldWrite = none := by
    unfold State.faultHeld
    cases hs : s.upd.state <;> simp [UpdateState.heldWrite, hs]
  obtain ⟨hupd, heng⟩ : (s.completeReset waited).upd = s.faultHeld.upd ∧ (s.completeReset waited).engine = Engine.reset := by
    simp [State.completeReset, State.reply_frame]
  exact ⟨State.reconsiderDue_of_notHeld (by rw [hupd]; exact hheld), by rw [State.fullResetDue, heng]; rfl⟩

theorem State.settleWrite_notDue (s : State) : s.settleWrite.reconsiderDue = false := by
  unfold State.settleWrite
  split
  · next hdue => exact (State.reconsider_decides s hdue).reconsider
  · next hdue => exact Bool.eq_false_iff.2 hdue

theorem State.settleWork_notDue (s : State) : s.settleWork.reconsiderDue = false ∧ s.settleWork.fullResetDue = false := by
  rw [State.settleWork_eq]
  split
  · exact State.completeReset_notDue true _
  · next hfull => exact ⟨State.settleWrite_notDue s, Bool.eq_false_iff.2 hfull⟩

theorem State.settleWork_of_notDue {s : State} (hr : s.reconsiderDue = false) (hf : s.fullResetDue = false) :
    s.settleWork = s := by
  simp [State.settleWork, hr, hf]

theorem State.takeWaiting_notDue {s : State} (hr : s.reconsiderDue = false) (hf : s.fullResetDue = false) :
    s.takeWaiting.owes = false := by
  obtain ⟨hrec, hfull, hupd⟩ := State.takeUpdates_notDue s.upd.waiting s rfl hr
  obtain ⟨hrec', hfull', hupd', hcyc'⟩ := State.takeCycles_notDue _ (s.takeUpdates s.upd.waiting) rfl
  exact State.owes_eq_false.2 ⟨hrec'.trans hrec, hfull'.trans (hfull.trans hf), hupd'.trans hupd, hcyc'⟩

/-- Settling leaves nothing owed. -/
theorem State.settle_owes (s : State) : s.settle.owes = false :=
  State.takeWaiting_notDue (State.settleWork_notDue s).1 (State.settleWork_notDue s).2

theorem State.settle_settled {s : State} (h : s.pins.resetn = false) : s.settle.settled :=
  ⟨by rw [(State.settle_frame s).1]; exact h, s.settle_owes⟩

/-- A state that owes nothing is settled as it stands, whatever RESETN is. -/
theorem State.settle_of_owes_eq_false {s : State} (h : s.owes = false) : s.settle = s := by
  obtain ⟨hr, hf, hu, hc⟩ := State.owes_eq_false.1 h
  rw [State.settle, State.settleWork_of_notDue hr hf, State.takeWaiting, State.takeUpdates_of_notDue hu,
    State.takeCycles_of_notDue hc]

/-- A due reconsideration is the first part of settling. -/
theorem State.settle_of_reconsiderDue {s : State} (h : s.reconsiderDue = true) : s.settle = s.reconsider.settle := by
  have hnot := (State.reconsider_decides s h).reconsider
  simp only [State.settle, State.settleWork, h, hnot, if_true, Bool.false_eq_true, if_false]

/-- With no reconsideration due, a due completion comes first. -/
theorem State.settle_of_fullResetDue {s : State} (hr : s.reconsiderDue = false) (hf : s.fullResetDue = true) :
    s.settle = (s.completeReset true).settle := by
  obtain ⟨hr', hf'⟩ := State.completeReset_notDue true s
  simp only [State.settle, State.settleWork, hr, hf, hr', hf', if_true, Bool.false_eq_true, if_false]

/-- With neither due, the oldest request of the update port comes first. -/
theorem State.settle_of_updateTakeDue {s : State} {r : BusRequest} {rest : List BusRequest} (hr : s.reconsiderDue = false)
    (hf : s.fullResetDue = false) (hu : s.updateTakeDue = true) (hw : s.upd.waiting = r :: rest) :
    s.settle = State.settle (State.takeUpdate r { s with upd := { s.upd with waiting := rest } }) := by
  obtain ⟨hr', hf', hw'⟩ := State.takeUpdate_decides r { s with upd := { s.upd with waiting := rest } }
  have hready : s.updateReady = true := (Bool.and_eq_true_iff.1 hu).1
  rw [State.settle, State.settle, State.settleWork_of_notDue hr hf, State.settleWork_of_notDue hr' (hf'.trans hf),
    State.takeWaiting, State.takeWaiting, hw, hw', State.takeUpdates, if_pos hready]

/-- With none of them due, the oldest request of the cycle port comes first. -/
theorem State.settle_of_cycleTakeDue {s : State} {r : BusRequest} {rest : List BusRequest} (hr : s.reconsiderDue = false)
    (hf : s.fullResetDue = false) (hu : s.updateTakeDue = false) (hc : s.cycleTakeDue = true)
    (hw : s.cyc.waiting = r :: rest) :
    s.settle = State.settle (State.takeCycle r { s with cyc := { s.cyc with waiting := rest } }) := by
  obtain ⟨hr', hf', hu'⟩ := State.takeCycle_due r { s with cyc := { s.cyc with waiting := rest } }
  have hw' := (State.takeCycle_leavesBatches r { s with cyc := { s.cyc with waiting := rest } }).waiting
  have hready : s.cycleReady = true := (Bool.and_eq_true_iff.1 hc).1
  rw [State.settle, State.settle, State.settleWork_of_notDue hr hf, State.settleWork_of_notDue (hr'.trans hr) (hf'.trans hf),
    State.takeWaiting, State.takeWaiting, State.takeUpdates_of_notDue hu, State.takeUpdates_of_notDue (hu'.trans hu), hw, hw',
    State.takeCycles, if_pos hready]

/-! ### Rows of the table and what is owed -/

/-- A request that a free port finds presented is taken (R47). -/
theorem State.requestUpdate_of_takesUpdates {s : State} (h : s.takesUpdates) (r : BusRequest) :
    s.requestUpdate r = s.takeUpdate r := by
  obtain ⟨⟨hresetn, -⟩, hidle, hurstn⟩ := h
  exact if_pos (by simp [State.updateReady, hidle, hurstn, hresetn])

theorem State.requestCycle_of_takesCycles {s : State} (h : s.takesCycles) (r : BusRequest) :
    s.requestCycle r = s.takeCycle r := by
  obtain ⟨⟨hresetn, -⟩, hidle, hcrstn⟩ := h
  exact if_pos (by simp [State.cycleReady, hidle, hcrstn, hresetn])

theorem exec_updateTransactionTaken {s : State} (h : s.takesUpdates) (r : BusRequest) :
    exec (.updateTransactionTaken r) s = .next (s.takeUpdate r).judgeAttn := by
  change (if s.pins.resetn then _ else event (State.requestUpdate r) s) = _
  rw [h.1.1, if_neg Bool.false_ne_true, event_of_settled _ _ h.1, State.requestUpdate_of_takesUpdates h]

theorem exec_cycleTransactionTaken {s : State} (h : s.takesCycles) (r : BusRequest) :
    exec (.cycleTransactionTaken r) s = .next (s.takeCycle r).judgeAttn := by
  change (if s.pins.resetn then _ else event (State.requestCycle r) s) = _
  rw [h.1.1, if_neg Bool.false_ne_true, event_of_settled _ _ h.1, State.requestCycle_of_takesCycles h]

theorem exec_heldWriteReconsidered {s : State} (h : s.pins.resetn = false) :
    exec .heldWriteReconsidered s = .next s.settleWrite.judgeAttn := by
  change (if s.pins.resetn then _ else _) = _
  rw [h, if_neg Bool.false_ne_true]

theorem exec_fullResetComplete {s : State} (h : s.pins.resetn = false) :
    exec .fullResetComplete s = .next s.settleWork.judgeAttn := by
  change (if s.pins.resetn then _ else _) = _
  rw [h, if_neg Bool.false_ne_true]

theorem event_settle (f : State → State) {s : State} (h : s.pins.resetn = false) : event f s = event f s.settle := by
  rw [event_of_settled f _ (State.settle_settled h), event, h, if_neg Bool.false_ne_true]

/-- A row that has an effect of its own under RESETN is an event while RESETN is deasserted. -/
theorem rowInReset_settle (f g : State → State) {s : State} (h : s.pins.resetn = false) :
    (if s.pins.resetn then .next (g s) else event f s) =
      (if s.settle.pins.resetn then .next (g s.settle) else event f s.settle) := by
  have hset : s.settle.pins.resetn = false := (State.settle_settled h).1
  rw [h, hset, if_neg Bool.false_ne_true, if_neg Bool.false_ne_true, event_settle f h]

/-- What is owed comes before a command's own effect. -/
theorem exec_settle (c : Instr) {s : State} (h : s.pins.resetn = false) (hrise : c ≠ .resetnDeasserted)
    (hrec : c ≠ .heldWriteReconsidered) (hfull : c ≠ .fullResetComplete) (hlate : ∀ ans, c ≠ .lateAnswer ans) :
    exec c s = exec c s.settle := by
  cases c with
  | powerOnReset =>
    have hagain : s.settle.settle = s.settle := State.settle_of_owes_eq_false s.settle_owes
    obtain ⟨hpins, hpending⟩ := State.settle_frame s
    change execPowerOnReset s = execPowerOnReset s.settle
    rw [execPowerOnReset, execPowerOnReset, hagain, hpins, hpending]
  | resetnDeasserted => exact absurd rfl hrise
  | heldWriteReconsidered => exact absurd rfl hrec
  | fullResetComplete => exact absurd rfl hfull
  | lateAnswer ans => exact absurd rfl (hlate ans)
  | urstnAsserted => exact rowInReset_settle _ (fun t => { t with pins := { t.pins with urstn := true } }) h
  | urstnDeasserted => exact rowInReset_settle _ (fun t => { t with pins := { t.pins with urstn := false } }) h
  | crstnAsserted => exact rowInReset_settle _ (fun t => { t with pins := { t.pins with crstn := true } }) h
  | crstnDeasserted => exact rowInReset_settle _ (fun t => { t with pins := { t.pins with crstn := false } }) h
  | updateTransactionTaken r => exact rowInReset_settle _ (State.presentUpdate r) h
  | cycleTransactionTaken r => exact rowInReset_settle _ (State.presentCycle r) h
  | qualifyStart line => exact rowInReset_settle _ (fun t => t.lineInReset line true) h
  | pulseDropped line => exact rowInReset_settle _ (fun t => t.lineInReset line false) h
  | linkTransactionStart => exact rowInReset_settle _ (fun t => { t with pins := { t.pins with ssn := true } }) h
  | ssnRises received bits => exact rowInReset_settle _ State.ssnHigh h
  | _ => exact event_settle _ h

/-- Settles O4: each part of settling leaves nothing of its kind due and makes nothing due that an earlier part has done. -/
theorem owedWorkComesFirst : Obligations.OwedWorkComesFirst := by
  refine ⟨fun s h => State.settle_settled h, fun c s h hrise hrec hfull hlate => exec_settle c h hrise hrec hfull hlate,
    fun s h => State.settle_of_owes_eq_false h, fun s h hdue => ⟨?_, State.settle_of_reconsiderDue hdue⟩,
    fun s h hr hf => ⟨?_, State.settle_of_fullResetDue hr hf⟩,
    fun r rest s hr hf hu hw => State.settle_of_updateTakeDue hr hf hu hw,
    fun r rest s hr hf hu hc hw => State.settle_of_cycleTakeDue hr hf hu hc hw,
    fun r s h => exec_updateTransactionTaken h r, fun r s h => exec_cycleTransactionTaken h r⟩
  · rw [exec_heldWriteReconsidered h, State.settleWrite, if_pos hdue]
  · have hwrite : s.settleWrite = s := by rw [State.settleWrite, hr, if_neg Bool.false_ne_true]
    rw [exec_fullResetComplete h, State.settleWork_eq, hwrite, if_pos hf]

/-! ### The step on an empty queue -/

theorem State.elapse_in_reset {s : State} (h : s.pins.resetn = true) (n : Nat) : s.elapse n = s := if_pos h

theorem step_of_pending_nil {s : State} (h : s.pending = []) : step s = idleStep s := by
  rw [step, h]

/-- The device's own event, if one is due, and otherwise one microsecond. -/
def State.runDue (s : State) : Option Instr → Host.Outcome State Fault Refusal
  | some c => exec c s
  | none => .next s.microsecond

/-- A settled device takes the first due of its own events, or lets a microsecond pass (log 2). -/
theorem idleStep_of_settled {s : State} (h : s.settled) : idleStep s = s.runDue s.dueEvent := by
  rw [idleStep, h.1, h.2, if_neg Bool.false_ne_true, if_neg Bool.false_ne_true]
  rfl

theorem State.runDue_ite (s : State) (due : Bool) (c : Instr) (others : Option Instr) :
    s.runDue (if due then some c else others) = if due then exec c s else s.runDue others := by
  cases due <;> rfl

theorem ite_some_orElse (due : Bool) (c : Instr) (others rest : Option Instr) :
    ((if due then some c else others) <|> rest) = if due then some c else (others <|> rest) := by
  cases due <;> rfl

/-- The fixed order of the device's own events, as one chain (log 2). -/
theorem State.runDue_dueEvent (s : State) : s.runDue s.dueEvent =
    (if s.timeoutDue then exec .accessTimeout s
    else if s.holdDue then exec .writeHoldExpired s
    else if s.epoch.lineA.due then exec (.pulseAccepted .a) s
    else if s.epoch.lineB.due then exec (.pulseAccepted .b) s
    else if s.epoch.periodDue then exec .periodEnd s
    else if s.rep.idleDue then exec .idleTimerRunOut s
    else if s.grantDue then exec .grant s
    else if s.commitDue then exec .commitStart s
    else .next (s.elapse 1).judgeAttn) := by
  simp only [State.dueEvent, State.expiryDue, State.workDue, ite_some_orElse, State.runDue_ite,
    Option.orElse_eq_orElse, Option.orElse_eq_or, Option.none_or]
  rfl

/-! ### Each due condition as its rule says it -/

theorem State.reconsiderDue_iff (s : State) : s.reconsiderDue = true ↔ ∃ w f t, s.upd.state = .held w f t ∧
    ((f = .stagingEntry ∧ s.inUse < 256) ∨ (f = .listRoom ∧ (s.win w.window).waiting.length < 4)) := by
  unfold State.reconsiderDue
  cases s.upd.state with
  | held w f t =>
    cases f with
    | stagingEntry =>
      refine ⟨fun hdue => ⟨w, _, t, rfl, .inl ⟨rfl, of_decide_eq_true hdue⟩⟩, ?_⟩
      rintro ⟨w', f, t', ⟨⟩, ⟨-, hfree⟩ | ⟨⟨⟩, -⟩⟩
      exact decide_eq_true hfree
    | listRoom =>
      refine ⟨fun hdue => ⟨w, _, t, rfl, .inr ⟨rfl, of_decide_eq_true hdue⟩⟩, ?_⟩
      rintro ⟨w', f, t', ⟨⟩, ⟨⟨⟩, -⟩ | ⟨-, hroom⟩⟩
      exact decide_eq_true hroom
  | idle => simp
  | requested t => simp
  | atMemory t => simp
  | draining t => simp

theorem State.fullResetDue_iff (s : State) : s.fullResetDue = true ↔
    s.engine.fullReset = true ∧ (s.engine.state = .idle ∨ s.engine.state = .halted) := by
  simp [State.fullResetDue]

theorem State.updateTakeDue_iff (s : State) : s.updateTakeDue = true ↔
    s.upd.waiting ≠ [] ∧ s.upd.state = .idle ∧ s.pins.urstn = false ∧ s.pins.resetn = false := by
  simp [State.updateTakeDue, State.updateReady, and_assoc, and_comm]

theorem State.cycleTakeDue_iff (s : State) : s.cycleTakeDue = true ↔
    s.cyc.waiting ≠ [] ∧ s.cyc.state = .idle ∧ s.pins.crstn = false ∧ s.pins.resetn = false := by
  simp [State.cycleTakeDue, State.cycleReady, and_assoc, and_comm]

theorem State.owes_iff (s : State) : s.owes = true ↔
    s.reconsiderDue = true ∨ s.fullResetDue = true ∨ s.updateTakeDue = true ∨ s.cycleTakeDue = true := by
  simp only [State.owes, Bool.or_eq_true, or_assoc]

theorem State.timeoutDue_iff (s : State) :
    s.timeoutDue = true ↔ ∃ p, s.arb.port = some p ∧ p.timeout.toNat ≤ p.elapsed := by
  unfold State.timeoutDue
  cases s.arb.port <;> simp

theorem State.holdDue_iff (s : State) :
    s.holdDue = true ↔ ∃ w f t, s.upd.state = .held w f t ∧ t.limit.toNat ≤ t.elapsed := by
  unfold State.holdDue
  cases s.upd.state with
  | held w f t =>
    refine ⟨fun hdue => ⟨w, f, t, rfl, of_decide_eq_true hdue⟩, ?_⟩
    rintro ⟨w', f', t', ⟨⟩, hlimit⟩
    exact decide_eq_true hlimit
  | idle => simp
  | requested t => simp
  | atMemory t => simp
  | draining t => simp

theorem Qualifier.due_iff (q : Qualifier) :
    q.due = true ↔ ∃ time k, q.state = .qualifying time k ∧ time.toNat ≤ k := by
  unfold Qualifier.due
  cases q.state with
  | qualifying time k =>
    refine ⟨fun hdue => ⟨time, k, rfl, of_decide_eq_true hdue⟩, ?_⟩
    rintro ⟨time', k', ⟨⟩, hlimit⟩
    exact decide_eq_true hlimit
  | low => simp
  | high => simp

theorem EpochUnit.periodDue_iff (e : EpochUnit) :
    e.periodDue = true ↔ e.mode ≠ .off ∧ e.active.toNat ≤ e.count.toNat := by
  simp [EpochUnit.periodDue]

theorem ReportUnit.idleDue_iff (r : ReportUnit) :
    r.idleDue = true ↔ r.idleRunOut = false ∧ r.idleTime.toNat * 100 ≤ r.idleElapsed := by
  rw [ReportUnit.idleDue, Bool.and_eq_true, Bool.not_eq_true', decide_eq_true_eq]
  rfl

theorem State.grantDue_iff (s : State) : s.grantDue = true ↔
    s.arb.port = none ∧ (s.arb.cp ≠ none ∨ s.arb.ce ≠ none ∨ s.arb.up ≠ none ∨ s.arb.sl ≠ none) := by
  simp only [State.grantDue, Arbiter.someWaits, Bool.and_eq_true, Bool.or_eq_true, Option.isNone_iff_eq_none,
    ← Option.ne_none_iff_isSome, or_assoc]

theorem State.commitDue_iff (s : State) : s.commitDue = true ↔
    s.engine.state = .idle ∧ s.engine.gate = .opened ∧ s.engine.fullReset = false ∧ s.engine.queue ≠ [] := by
  simp [State.commitDue, and_assoc]

/-- Settles O2: the branches of a step on an empty queue, and each due condition as its rule says it. -/
theorem emptyQueueRunsTheDevice : Obligations.EmptyQueueRunsTheDevice := by
  refine ⟨fun n s h => State.elapse_in_reset h n, fun s hp h => ?_, fun s hp h howes => ?_, fun s hp h => ?_,
    fun s => ⟨s.owes_iff, s.reconsiderDue_iff, s.fullResetDue_iff, s.updateTakeDue_iff, s.cycleTakeDue_iff⟩,
    fun s => ⟨s.timeoutDue_iff, s.holdDue_iff, Qualifier.due_iff, s.epoch.periodDue_iff, s.rep.idleDue_iff, s.grantDue_iff,
      s.commitDue_iff⟩⟩
  · rw [step_of_pending_nil hp, idleStep, if_pos h, State.microsecond, State.elapse_in_reset h]
  · rw [step_of_pending_nil hp, idleStep, h, if_neg Bool.false_ne_true, if_pos howes]
  · rw [step_of_pending_nil hp, idleStep_of_settled h, State.runDue_dueEvent]

end Sys2Proof.Machine
end

section
/-! SUPPORT. The Staging Store's decision on a write (R25 to R35), taken now or reconsidered: what the write finds is read off the state
before it (`State.batchFor`), the decision is computed once from that, and each decision has one next state. -/

namespace Sys2Proof.Machine

/-! ### The batch that a write finds -/

section
variable {s : State} {i : WIdx} {id : Half} {es : List Entry}

/-- The slot of a window that takes a write is empty, or holds the batch that the write finds. -/
theorem State.batchFor_cases (hb : s.batchFor i = some (id, es)) :
    ((s.win i).openBatch = none ∧ id = s.store.nextId ∧ es = []) ∨ (s.win i).openBatch = some (.gathering id es) := by
  unfold State.batchFor at hb
  cases hopen : (s.win i).openBatch with
  | none => rw [hopen] at hb; cases hb; exact .inl ⟨rfl, rfl, rfl⟩
  | some b =>
    rw [hopen] at hb
    cases b with
    | gathering id' es' => cases hb; exact .inr rfl
    | spoiled id' cause => cases hb

theorem State.batchFor_of_gathering (h : (s.win i).openBatch = some (.gathering id es)) : s.batchFor i = some (id, es) := by
  rw [State.batchFor, h]

theorem State.storeFor_of_some {b : OpenBatch} (h : (s.win i).openBatch = some b) : s.storeFor i = s.store := by
  rw [State.storeFor, h]

theorem State.storeFor_of_none (h : (s.win i).openBatch = none) :
    s.storeFor i = { s.store with nextId := s.store.nextId + 1 } := by
  rw [State.storeFor, h]

/-- A slot filled with what it holds already is the slot as it stands. -/
theorem State.slotFilled_self {b : OpenBatch} (h : (s.win i).openBatch = some b) : s.slotFilled i b = s := by
  have hwin : { s.win i with openBatch := some b } = s.win i := by rw [← h]
  rw [State.slotFilled, State.storeFor_of_some h, hwin, State.setWin_win_self]

theorem State.ensureOpen_of_some {b : OpenBatch} (h : (s.win i).openBatch = some b) : s.ensureOpen i = s := by
  rw [State.ensureOpen, h]

/-- Filling the slot puts the batch into it that the write finds (R22, R26). -/
theorem State.ensureOpen_of_batchFor (hb : s.batchFor i = some (id, es)) :
    s.ensureOpen i = s.slotFilled i (.gathering id es) := by
  rcases State.batchFor_cases hb with ⟨hopen, rfl, rfl⟩ | hopen
  · rw [State.ensureOpen, hopen, State.slotFilled, State.storeFor_of_none hopen]
    rfl
  · rw [State.ensureOpen_of_some hopen, State.slotFilled_self hopen]

@[simp] theorem State.slotFilled_win_same (i : WIdx) (b : OpenBatch) (s : State) :
    (s.slotFilled i b).win i = { s.win i with openBatch := some b } := State.setWin_win_same ..

/-- The window that has had its slot filled may have it replaced: the rest is as before. -/
theorem State.setWin_slotFilled (i : WIdx) (b : OpenBatch) (w : Window) (s : State) :
    (s.slotFilled i b).setWin i w = { s.setWin i w with store := s.storeFor i } := by
  simp [State.slotFilled, State.setWin]

/-! ### The decision (R25, R33) -/

theorem State.someWillFree_iff (s : State) : s.someWillFree = true ↔ ∃ j : WIdx, (s.win j).waiting ≠ [] := by
  simp only [State.someWillFree, List.any_eq_true, Vector.mem_toList_iff, Vector.mem_iff_getElem, Bool.not_eq_true',
    List.isEmpty_eq_false_iff]
  refine ⟨?_, fun ⟨j, hj⟩ => ⟨_, ⟨j.val, j.isLt, rfl⟩, hj⟩⟩
  rintro ⟨w, ⟨n, hn, rfl⟩, hw⟩
  exact ⟨⟨n, hn⟩, hw⟩

theorem State.someWillFree_eq_false (s : State) (h : ∀ j : WIdx, (s.win j).waiting = []) : s.someWillFree = false :=
  Bool.eq_false_iff.2 fun hf => (s.someWillFree_iff.1 hf).elim fun j hj => hj (h j)

theorem State.ensureOpen_someWillFree (i : WIdx) (s : State) : (s.ensureOpen i).someWillFree = s.someWillFree := by
  rw [Bool.eq_iff_iff, State.someWillFree_iff, State.someWillFree_iff]
  simp only [State.ensureOpen_waiting]

theorem State.ensureOpen_hasRoom (i j : WIdx) (s : State) : ((s.ensureOpen i).win j).hasRoom = (s.win j).hasRoom := by
  rw [Window.hasRoom, Window.hasRoom, State.ensureOpen_waiting]

theorem State.ensureOpen_writeHoldLimit (i : WIdx) (s : State) :
    (s.ensureOpen i).store.writeHoldLimit = s.store.writeHoldLimit := by
  unfold State.ensureOpen
  split <;> rfl

/-- The decision on a write, read off the state before the slot is filled. -/
theorem verdict_ensureOpen {x : StagedWrite} (hb : s.batchFor x.window = some (id, es)) (r : Bool) :
    verdict (s.ensureOpen x.window) r x =
      if x.closing && !(s.win x.window).hasRoom then
        if !r && s.store.writeHoldLimit == 0 then .spoil .closeHoldExpired else .hold .listRoom
      else stageVerdict s r x es := by
  have hopen : ((s.ensureOpen x.window).win x.window).openBatch = some (.gathering id es) := by
    rw [State.ensureOpen_of_batchFor hb, State.slotFilled_win_same]
  have hstage : stageVerdict (s.ensureOpen x.window) r x es = stageVerdict s r x es := by
    simp only [stageVerdict, State.ensureOpen_inUse, State.ensureOpen_someWillFree, State.ensureOpen_writeHoldLimit]
  rw [verdict, hopen]
  simp only [State.ensureOpen_hasRoom, State.ensureOpen_writeHoldLimit, hstage]

theorem StagedWrite.closing_iff (x : StagedWrite) : x.closing = true ↔ x.fields.closing = some (wordAddr x.addr) :=
  beq_iff_eq

theorem StagedWrite.closing_eq_false (x : StagedWrite) :
    x.closing = false ↔ x.fields.closing ≠ some (wordAddr x.addr) :=
  beq_eq_false_iff_ne

theorem Window.hasRoom_iff (w : Window) : w.hasRoom = true ↔ w.waiting.length < 4 := decide_eq_true_iff

theorem Window.hasRoom_eq_false (w : Window) : w.hasRoom = false ↔ 4 ≤ w.waiting.length := by
  rw [Window.hasRoom, decide_eq_false_iff_not, Nat.not_lt]
  exact Iff.rfl

/-- A write that is no closing one, or finds room in the list, is decided by its word, the limit and the store (R25, R33). -/
theorem verdict_of_room {x : StagedWrite} (hb : s.batchFor x.window = some (id, es)) (r : Bool)
    (hroom : x.fields.closing = some (wordAddr x.addr) → (s.win x.window).waiting.length < 4) :
    verdict (s.ensureOpen x.window) r x = stageVerdict s r x es := by
  rw [verdict_ensureOpen hb, if_neg]
  rw [Bool.and_eq_true, Bool.not_eq_true', not_and, Bool.not_eq_false]
  exact fun hclosing => (Window.hasRoom_iff _).2 (hroom (x.closing_iff.1 hclosing))

/-- A closing write that finds the waiting list full (R33, R34). -/
theorem verdict_of_full {x : StagedWrite} (hb : s.batchFor x.window = some (id, es)) (r : Bool)
    (hclosing : x.fields.closing = some (wordAddr x.addr)) (hfull : 4 ≤ (s.win x.window).waiting.length) :
    verdict (s.ensureOpen x.window) r x =
      if !r && s.store.writeHoldLimit == 0 then .spoil .closeHoldExpired else .hold .listRoom := by
  rw [verdict_ensureOpen hb, x.closing_iff.2 hclosing, (Window.hasRoom_eq_false _).2 hfull]
  rfl

/-- The write's word is in the batch, or a new entry fits the limit and the store (R25, R26). -/
theorem stageVerdict_accepts {x : StagedWrite} (r : Bool)
    (h : (es.any fun e => e.addr == wordAddr x.addr) = true ∨
      (es.length < x.fields.batchLimit.toNat ∧ s.inUse < 256)) :
    stageVerdict s r x es = .accept (entriesWith (wordAddr x.addr) (writeLanes x.addr x.data) es) := by
  unfold stageVerdict entriesWith
  by_cases hword : (es.any fun e => e.addr == wordAddr x.addr) = true
  · rw [if_pos (show hasWord _ es = true from hword), if_pos hword]
    rfl
  · obtain ⟨hlimit, hstore⟩ := h.resolve_left hword
    rw [if_neg (show ¬ hasWord _ es = true from hword), if_neg hword, if_neg (Nat.not_le.2 hlimit),
      if_neg (show ¬ Config.stagingEntries ≤ s.inUse from Nat.not_le.2 hstore)]

/-- A new entry is needed and the batch is full: the limit comes before the store (R27). -/
theorem stageVerdict_batchLimit {x : StagedWrite} (r : Bool)
    (hword : (es.any fun e => e.addr == wordAddr x.addr) = false) (hlimit : x.fields.batchLimit.toNat ≤ es.length) :
    stageVerdict s r x es = .spoil .batchLimit := by
  unfold stageVerdict
  rw [if_neg (Bool.eq_false_iff.1 (show hasWord _ es = false from hword)), if_pos hlimit]

/-- A new entry is needed within the limit, and the store is full (R28, R29). -/
theorem stageVerdict_full {x : StagedWrite} (r : Bool)
    (hword : (es.any fun e => e.addr == wordAddr x.addr) = false) (hlimit : es.length < x.fields.batchLimit.toNat)
    (hstore : 256 ≤ s.inUse) :
    stageVerdict s r x es = fullVerdict r s.store.writeHoldLimit s.someWillFree := by
  unfold stageVerdict
  rw [if_neg (Bool.eq_false_iff.1 (show hasWord _ es = false from hword)), if_neg (Nat.not_le.2 hlimit),
    if_pos (show Config.stagingEntries ≤ s.inUse from hstore)]

/-! ### What each decision does -/

/-- Queueing from an IMMEDIATE window looks at the windows and the engine alone. -/
theorem State.queueImmediate_congr {t : State} (i : WIdx) (hw : t.windows = s.windows) (he : t.engine = s.engine) :
    t.queueImmediate i =
      { t with windows := (s.queueImmediate i).windows, engine := (s.queueImmediate i).engine } := by
  have hwin : t.win i = s.win i := by rw [State.win, State.win, hw]
  unfold State.queueImmediate State.queueFrom
  rw [hwin]
  cases (s.win i).place.activeHeld with
  | none => simp only [← hw, ← he]
  | some h =>
    by_cases hsrc : h.source = .immediate
    · cases (s.win i).queueOldest none with
      | none => simp only [hsrc, if_true, Option.getD_none, ← hw, ← he]
      | some q => simp only [hsrc, if_true, Option.getD_some, State.setWin, hw, he]
    · simp only [hsrc, if_false, ← hw, ← he]

theorem State.queueImmediate_upd (i : WIdx) (s : State) : (s.queueImmediate i).upd = s.upd := by
  simp only [State.queueImmediate_frame]

theorem State.queueImmediate_svc (i : WIdx) (s : State) : (s.queueImmediate i).svc = s.svc := by
  simp only [State.queueImmediate_frame]

/-- An operation that neither looks at the windows and the engine nor changes them may come before the queueing or after it. -/
theorem State.queueImmediate_comm (f : State → State) (i : WIdx) (s : State)
    (hf : ∀ t w e, f { t with windows := w, engine := e } = { f t with windows := w, engine := e }) :
    (f s).queueImmediate i = f (s.queueImmediate i) := by
  have hself : f s = { f s with windows := s.windows, engine := s.engine } := hf s s.windows s.engine
  rw [State.queueImmediate_congr (s := s) i (by rw [hself]) (by rw [hself]), ← hf,
    ← State.queueImmediate_congr (s := s) (t := s) i rfl rfl]

/-- The state after a write has been answered, its batch SPOILED (R27, R28, R34, R35). -/
def State.spoiledBy (i : WIdx) (id : Half) (cause : SpoilCause) (s : State) : State :=
  { s.setWin i { s.win i with
      openBatch := some (.spoiled id cause)
      counters := { (s.win i).counters with batchesSpoiled := satInc (s.win i).counters.batchesSpoiled } } with
    store := s.storeFor i
    upd := ⟨.idle, some .fault, s.upd.waiting⟩
    rep := s.rep.take (.batchSpoiled i id cause) }

theorem State.spoil_eq (i : WIdx) (id : Half) (cause : SpoilCause) (s : State) : s.spoil i id cause =
    { s.setWin i { s.win i with
        openBatch := some (.spoiled id cause)
        counters := { (s.win i).counters with batchesSpoiled := satInc (s.win i).counters.batchesSpoiled } } with
      rep := s.rep.take (.batchSpoiled i id cause) } := by
  simp [State.spoil, State.countSpoiled, State.mapWin, State.record, State.setWin, State.win]

theorem State.spoil_ensureOpen (hb : s.batchFor i = some (id, es)) (cause : SpoilCause) :
    ((s.ensureOpen i).spoil i id cause).answerUpdate .fault = s.spoiledBy i id cause := by
  rw [State.ensureOpen_of_batchFor hb, State.spoil_eq, State.setWin_slotFilled, State.slotFilled_win_same]
  rfl

theorem State.openId_ensureOpen (hb : s.batchFor i = some (id, es)) : (s.ensureOpen i).openId i = id := by
  rw [State.openId, State.ensureOpen_of_batchFor hb, State.slotFilled_win_same]
  rfl

/-- A write taken into a batch which stays OPEN (R20, R54, R55). -/
theorem State.acceptWrite_open {x : StagedWrite} (new : List Entry) (t : State)
    (hclosing : x.fields.closing ≠ some (wordAddr x.addr)) :
    t.acceptWrite x new =
      { t.setWin x.window { t.win x.window with openBatch := some (.gathering (t.openId x.window) new) } with
        upd := ⟨.idle, some (.done []), t.upd.waiting⟩
        rep := if x.tap = .off then t.rep else t.rep.take (.tap .update x.addr x.data) } := by
  simp only [State.acceptWrite, x.closing_eq_false.2 hclosing, Bool.false_eq_true, if_false]
  split <;> rfl

/-- A write taken that closes its batch: it leaves the slot for the tail of the waiting list (R32, R33). -/
theorem State.acceptWrite_close {x : StagedWrite} (new : List Entry) (t : State)
    (hclosing : x.fields.closing = some (wordAddr x.addr)) :
    t.acceptWrite x new = State.queueImmediate x.window
      { t.setWin x.window { t.win x.window with
          openBatch := none
          waiting := (t.win x.window).waiting ++ [⟨t.openId x.window, new, .closed, .closingWrite, none⟩] } with
        upd := ⟨.idle, some (.done []), t.upd.waiting⟩
        rep := if x.tap = .off then t.rep else t.rep.take (.tap .update x.addr x.data) } := by
  have hclosed : ∀ id, (t.mapWin x.window fun w => { w with openBatch := some (.gathering id new) }).closeBatch x.window id new
      .closingWrite = (t.setWin x.window { t.win x.window with
        openBatch := none
        waiting := (t.win x.window).waiting ++ [⟨id, new, .closed, .closingWrite, none⟩] }).queueImmediate x.window := by
    intro id
    simp only [State.closeBatch, State.mapWin_eq_setWin, State.setWin_win_same, State.setWin_setWin, Window.close]
  simp only [State.acceptWrite, x.closing_iff.2 hclosing, if_true, hclosed]
  split
  · rw [← State.queueImmediate_comm (State.answerUpdate _) x.window _ fun _ _ _ => rfl]
    rfl
  · rw [← State.queueImmediate_comm (State.answerUpdate _) x.window _ fun _ _ _ => rfl,
      ← State.queueImmediate_comm (State.record _) x.window _ fun _ _ _ => rfl]
    rfl

section
variable {x : StagedWrite} {timer : Option HoldTimer}

theorem State.stageWrite_accept {new : List Entry} (hb : s.batchFor x.window = some (id, es))
    (hclosing : x.fields.closing ≠ some (wordAddr x.addr))
    (hv : verdict (s.ensureOpen x.window) timer.isSome x = .accept new) :
    s.stageWrite x timer = { s.slotFilled x.window (.gathering id new) with
      upd := ⟨.idle, some (.done []), s.upd.waiting⟩
      rep := if x.tap = .off then s.rep else s.rep.take (.tap .update x.addr x.data) } := by
  have hstage : s.stageWrite x timer = (s.ensureOpen x.window).acceptWrite x new := by simp only [State.stageWrite, hv]
  rw [hstage, State.acceptWrite_open new _ hclosing, State.openId_ensureOpen hb, State.ensureOpen_of_batchFor hb,
    State.setWin_slotFilled, State.slotFilled_win_same]
  rfl

theorem State.stageWrite_close {new : List Entry} (hb : s.batchFor x.window = some (id, es))
    (hclosing : x.fields.closing = some (wordAddr x.addr))
    (hv : verdict (s.ensureOpen x.window) timer.isSome x = .accept new) :
    s.stageWrite x timer = State.queueImmediate x.window
      { s.setWin x.window { s.win x.window with
          openBatch := none
          waiting := (s.win x.window).waiting ++ [⟨id, new, .closed, .closingWrite, none⟩] } with
        store := s.storeFor x.window
        upd := ⟨.idle, some (.done []), s.upd.waiting⟩
        rep := if x.tap = .off then s.rep else s.rep.take (.tap .update x.addr x.data) } := by
  have hstage : s.stageWrite x timer = (s.ensureOpen x.window).acceptWrite x new := by simp only [State.stageWrite, hv]
  rw [hstage, State.acceptWrite_close new _ hclosing, State.openId_ensureOpen hb, State.ensureOpen_of_batchFor hb,
    State.setWin_slotFilled, State.slotFilled_win_same]
  rfl

theorem State.stageWrite_spoil {cause : SpoilCause} (hb : s.batchFor x.window = some (id, es))
    (hv : verdict (s.ensureOpen x.window) timer.isSome x = .spoil cause) :
    s.stageWrite x timer = s.spoiledBy x.window id cause := by
  simp only [State.stageWrite, hv, State.openId_ensureOpen hb, State.spoil_ensureOpen hb]

/-- A write that is held finds its slot filled, and keeps its timer if it has one (R26, R29, R30). -/
theorem State.stageWrite_hold {f : WaitsFor} (hb : s.batchFor x.window = some (id, es))
    (hv : verdict (s.ensureOpen x.window) timer.isSome x = .hold f) :
    s.stageWrite x timer = { s.slotFilled x.window (.gathering id es) with
      upd := { s.upd with state := .held x f (timer.getD ⟨s.store.writeHoldLimit, 0⟩) } } := by
  simp only [State.stageWrite, hv, State.ensureOpen_writeHoldLimit]
  rw [State.ensureOpen_of_batchFor hb]
  rfl

/-- A write that meets a SPOILED batch is answered FAULT, and a closing one ends the batch (R31, R33). -/
theorem State.stageWrite_spoiled {cause : SpoilCause} (timer : Option HoldTimer)
    (hopen : (s.win x.window).openBatch = some (.spoiled id cause)) :
    s.stageWrite x timer = { s.setWin x.window { s.win x.window with
        openBatch := if x.fields.closing = some (wordAddr x.addr) then none else some (.spoiled id cause) } with
      upd := ⟨.idle, some .fault, s.upd.waiting⟩ } := by
  have hv : verdict s timer.isSome x = if x.closing then .endSpoiled else .refuse := by rw [verdict, hopen]
  have hself : { s.win x.window with openBatch := some (.spoiled id cause) } = s.win x.window := by rw [← hopen]
  rw [State.stageWrite, State.ensureOpen_of_some hopen, hv]
  by_cases hclosing : x.fields.closing = some (wordAddr x.addr)
  · rw [x.closing_iff.2 hclosing, if_pos hclosing]
    rfl
  · rw [x.closing_eq_false.2 hclosing, if_neg hclosing, hself, State.setWin_win_self]
    rfl

end

end

/-! ### Writes taken now (R25 to R28, R33, R34) -/

/-- The state in which the update port has taken its one request and answered nothing yet. -/
def State.taking (s : State) : State := { s with upd := ⟨.idle, none, []⟩ }

theorem State.waiting_of_takesUpdates {s : State} (h : s.takesUpdates) : s.upd.waiting = [] := by
  obtain ⟨⟨hresetn, howes⟩, hidle, hurstn⟩ := h
  obtain ⟨-, -, hdue, -⟩ := State.owes_eq_false.1 howes
  simpa [State.updateTakeDue, State.updateReady, hidle, hurstn, hresetn] using hdue

section
variable {a : Word} {d : WriteData} {i : WIdx} {ca : Access} {tap : Tap} {h : HeldFields} {id : Half} {es : List Entry}
  {s : State}

/-- A write of a HELD window that its master may write is handed to the store (R49, R54). -/
theorem exec_stagedWrite (ht : s.takesStaged a d i ca tap h) :
    exec (.updateTransactionTaken (.write a d)) s = .next (s.taking.stageWrite ⟨a, d, i, tap, h⟩ none).judgeAttn := by
  obtain ⟨htakes, haligned, hdecode⟩ := ht
  have htaken : { s with upd := { s.upd with answer := none } } = s.taking := by
    simp only [State.taking, htakes.2.1, State.waiting_of_takesUpdates htakes]
  have hal : reqAligned (.write a d) = true := beq_iff_eq.2 haligned
  have hdec : s.taking.decodeAddr (reqAddr (.write a d)) = .held i .readWrite ca tap h := hdecode
  have hupdate : s.takeUpdate (.write a d) = s.taking.dispatchUpdate (.write a d) (.held i .readWrite ca tap h) := by
    simp only [State.takeUpdate, htaken, hal, if_true, hdec]
  rw [exec_updateTransactionTaken htakes, hupdate]
  rfl

/-- The decision on a write taken now, with room in the list where it needs room. -/
theorem verdict_taking_room (hb : s.batchFor i = some (id, es))
    (hroom : h.closing = some (wordAddr a) → (s.win i).waiting.length < 4) :
    verdict (s.taking.ensureOpen i) false ⟨a, d, i, tap, h⟩ = stageVerdict s false ⟨a, d, i, tap, h⟩ es :=
  verdict_of_room (s := s.taking) (x := ⟨a, d, i, tap, h⟩) hb false hroom

/-- The decision on a closing write taken now with the list full. -/
theorem verdict_taking_full (hb : s.batchFor i = some (id, es)) (hclosing : h.closing = some (wordAddr a))
    (hfull : 4 ≤ (s.win i).waiting.length) :
    verdict (s.taking.ensureOpen i) false ⟨a, d, i, tap, h⟩ =
      if s.store.writeHoldLimit = 0 then .spoil .closeHoldExpired else .hold .listRoom := by
  have hv := verdict_of_full (s := s.taking) (x := ⟨a, d, i, tap, h⟩) hb false hclosing hfull
  rw [Bool.not_false, Bool.true_and] at hv
  exact hv.trans (by simp only [beq_iff_eq]; rfl)

theorem exec_stagedWrite_accept (ht : s.takesStaged a d i ca tap h) (hclosing : h.closing ≠ some (wordAddr a))
    (hb : s.batchFor i = some (id, es))
    (hfits : (es.any fun e => e.addr == wordAddr a) = true ∨ (es.length < h.batchLimit.toNat ∧ s.inUse < 256)) :
    exec (.updateTransactionTaken (.write a d)) s =
      .next (State.judgeAttn { s.slotFilled i (.gathering id (entriesWith (wordAddr a) (writeLanes a d) es)) with
        upd := ⟨.idle, some (.done []), []⟩
        rep := if tap = .off then s.rep else s.rep.take (.tap .update a d) }) := by
  have hv := (verdict_taking_room (d := d) (tap := tap) hb fun hc => absurd hc hclosing).trans
    (stageVerdict_accepts (x := ⟨a, d, i, tap, h⟩) false hfits)
  rw [exec_stagedWrite ht,
    State.stageWrite_accept (s := s.taking) (x := ⟨a, d, i, tap, h⟩) (timer := none) hb hclosing hv]
  rfl

theorem exec_stagedWrite_close (ht : s.takesStaged a d i ca tap h) (hclosing : h.closing = some (wordAddr a))
    (hb : s.batchFor i = some (id, es)) (hroom : (s.win i).waiting.length < 4)
    (hfits : (es.any fun e => e.addr == wordAddr a) = true ∨ (es.length < h.batchLimit.toNat ∧ s.inUse < 256)) :
    exec (.updateTransactionTaken (.write a d)) s = .next (State.judgeAttn (State.queueImmediate i
      { s.setWin i { s.win i with
          openBatch := none
          waiting := (s.win i).waiting ++
            [⟨id, entriesWith (wordAddr a) (writeLanes a d) es, .closed, .closingWrite, none⟩] } with
        store := s.storeFor i
        upd := ⟨.idle, some (.done []), []⟩
        rep := if tap = .off then s.rep else s.rep.take (.tap .update a d) })) := by
  have hv := (verdict_taking_room (d := d) (tap := tap) hb fun _ => hroom).trans
    (stageVerdict_accepts (x := ⟨a, d, i, tap, h⟩) false hfits)
  rw [exec_stagedWrite ht,
    State.stageWrite_close (s := s.taking) (x := ⟨a, d, i, tap, h⟩) (timer := none) hb hclosing hv]
  rfl

/-- A decision to spoil, whatever led to it. -/
theorem exec_stagedWrite_spoil {cause : SpoilCause} (ht : s.takesStaged a d i ca tap h) (hb : s.batchFor i = some (id, es))
    (hv : verdict (s.taking.ensureOpen i) false ⟨a, d, i, tap, h⟩ = .spoil cause) :
    exec (.updateTransactionTaken (.write a d)) s = .next (State.judgeAttn
      { s.setWin i { s.win i with
          openBatch := some (.spoiled id cause)
          counters := { (s.win i).counters with batchesSpoiled := satInc (s.win i).counters.batchesSpoiled } } with
        store := s.storeFor i
        upd := ⟨.idle, some .fault, []⟩
        rep := s.rep.take (.batchSpoiled i id cause) }) := by
  rw [exec_stagedWrite ht, State.stageWrite_spoil (s := s.taking) (x := ⟨a, d, i, tap, h⟩) (timer := none) hb hv]
  rfl

/-- A decision to hold, whatever led to it: the timer starts under the limit in force (R30). -/
theorem exec_stagedWrite_hold {f : WaitsFor} (ht : s.takesStaged a d i ca tap h) (hb : s.batchFor i = some (id, es))
    (hv : verdict (s.taking.ensureOpen i) false ⟨a, d, i, tap, h⟩ = .hold f) :
    exec (.updateTransactionTaken (.write a d)) s = .next (State.judgeAttn { s.slotFilled i (.gathering id es) with
      upd := ⟨.held ⟨a, d, i, tap, h⟩ f ⟨s.store.writeHoldLimit, 0⟩, none, []⟩ }) := by
  rw [exec_stagedWrite ht, State.stageWrite_hold (s := s.taking) (x := ⟨a, d, i, tap, h⟩) (timer := none) hb hv]
  rfl

end

/-- Settles O13: the decision is to accept, by the word or by room within the limit and the store. -/
theorem stagedWriteAccepted : Obligations.StagedWriteAccepted :=
  fun _ _ _ _ _ _ _ _ _ ht hclosing hb hfits => exec_stagedWrite_accept ht hclosing hb hfits

/-- Settles O14: the limit is looked at before the store, and only for a word that the batch does not hold. -/
theorem stagedWriteAtTheBatchLimit : Obligations.StagedWriteAtTheBatchLimit := by
  refine ⟨?_, ?_, ?_⟩
  · intro a d i ca tap h id es s ht hroom hopen hword hlimit
    have hb := State.batchFor_of_gathering hopen
    have hv := (verdict_taking_room (d := d) (tap := tap) hb hroom).trans
      (stageVerdict_batchLimit (x := ⟨a, d, i, tap, h⟩) false hword hlimit)
    rw [exec_stagedWrite_spoil ht hb hv, State.storeFor_of_some hopen]
    rfl
  · intro a d i ca tap h id es s ht hclosing hopen hword hlimit
    rw [exec_stagedWrite_accept ht hclosing (State.batchFor_of_gathering hopen) (.inl hword), entriesWith, if_pos hword,
      State.slotFilled, State.storeFor_of_some hopen]
    rfl
  · intro a d i ca tap h id es s ht hclosing hroom hopen hword hlimit
    refine ⟨_, exec_stagedWrite_close ht hclosing (State.batchFor_of_gathering hopen) hroom (.inl hword), ?_⟩
    rw [State.judgeAttn_upd, State.queueImmediate_upd]

/-- Settles O15: the full store is decided by whether some batch will free its entries, and by the hold limit. -/
theorem stagedWriteAtTheFullStore : Obligations.StagedWriteAtTheFullStore := by
  refine ⟨?_, ?_⟩
  · intro a d i ca tap h id es s ht hroom hb hword hlimit hstore hfree hhold
    have hfull : fullVerdict false s.store.writeHoldLimit s.someWillFree = .hold .stagingEntry := by
      simpa [fullVerdict, s.someWillFree_iff.2 hfree] using hhold
    have hv := (verdict_taking_room (d := d) (tap := tap) hb hroom).trans
      (stageVerdict_full (x := ⟨a, d, i, tap, h⟩) false hword hlimit hstore)
    exact exec_stagedWrite_hold ht hb (hv.trans hfull)
  · intro a d i ca tap h id es s ht hroom hb hword hlimit hstore hnone
    have hfull : fullVerdict false s.store.writeHoldLimit s.someWillFree = .spoil .storeFull := by
      rcases hnone with hnone | hzero
      · simp [fullVerdict, s.someWillFree_eq_false hnone]
      · simp [fullVerdict, hzero]
    have hv := (verdict_taking_room (d := d) (tap := tap) hb hroom).trans
      (stageVerdict_full (x := ⟨a, d, i, tap, h⟩) false hword hlimit hstore)
    exact exec_stagedWrite_spoil ht hb (hv.trans hfull)

/-- Settles O16: a closing write by the room in the waiting list and the hold limit, and a write that meets a SPOILED batch. -/
theorem closingAndSpoiledWrites : Obligations.ClosingAndSpoiledWrites := by
  refine ⟨?_, ?_, ?_, ?_⟩
  · intro a d i ca tap h id es s ht hclosing hb hroom hfits
    exact exec_stagedWrite_close ht hclosing hb hroom hfits
  · intro a d i ca tap h id es s ht hclosing hb hfull hhold
    exact exec_stagedWrite_hold ht hb ((verdict_taking_full hb hclosing hfull).trans (if_neg hhold))
  · intro a d i ca tap h id es s ht hclosing hb hfull hzero
    exact exec_stagedWrite_spoil ht hb ((verdict_taking_full hb hclosing hfull).trans (if_pos hzero))
  · intro a d i ca tap h id cause s ht hopen
    rw [exec_stagedWrite ht,
      State.stageWrite_spoiled (s := s.taking) (x := ⟨a, d, i, tap, h⟩) none hopen]
    rfl

/-! ### The held write's own events (R29, R34, R35) -/

section
variable {x : StagedWrite} {f : WaitsFor} {t : HoldTimer} {id : Half} {es : List Entry} {s : State}

/-- A held write whose wait is met is handed to the store again, with its timer. -/
theorem exec_reconsider (hr : s.pins.resetn = false) (hs : s.upd.state = .held x f t)
    (hmet : (f = .stagingEntry ∧ s.inUse < 256) ∨ (f = .listRoom ∧ (s.win x.window).waiting.length < 4)) :
    exec .heldWriteReconsidered s = .next (s.stageWrite x (some t)).judgeAttn := by
  have hdue : s.reconsiderDue = true := s.reconsiderDue_iff.2 ⟨x, f, t, hs, hmet⟩
  rw [exec_heldWriteReconsidered hr, State.settleWrite, if_pos hdue, State.reconsider, hs]

/-- The wait is met where the write finds room in the list, and an entry free if it waits for one. -/
theorem wait_met_of_room {used free : Nat} (hwait : (f = .stagingEntry ∧ used < 256) ∨ f = .listRoom) (hroom : free < 4) :
    (f = .stagingEntry ∧ used < 256) ∨ (f = .listRoom ∧ free < 4) :=
  hwait.imp_right fun hlist => ⟨hlist, hroom⟩

/-- The expiry of a hold spoils the batch that the write finds (R35). -/
theorem State.expireHold_of_batchFor (hb : s.batchFor x.window = some (id, es)) (f : WaitsFor) :
    s.expireHold x f = s.spoiledBy x.window id f.expiryCause := by
  have hopen : ((s.ensureOpen x.window).win x.window).openBatch = some (.gathering id es) := by
    rw [State.ensureOpen_of_batchFor hb, State.slotFilled_win_same]
  simp only [State.expireHold, hopen, State.spoil_ensureOpen hb]

/-- A batch that is SPOILED already keeps its cause (R31; log 12). -/
theorem State.expireHold_spoiled {cause : SpoilCause} (hopen : (s.win x.window).openBatch = some (.spoiled id cause))
    (f : WaitsFor) : s.expireHold x f = s.answerUpdate .fault := by
  simp only [State.expireHold, State.ensureOpen_of_some hopen, hopen]

theorem WaitsFor.expiryCause_eq (f : WaitsFor) :
    f.expiryCause = if f = .stagingEntry then .holdExpired else .closeHoldExpired := by
  cases f <;> rfl

/-- Time reaches neither the windows nor the store, nor the requests that wait. -/
theorem State.elapse_frame (n : Nat) (s : State) :
    (s.elapse n).windows = s.windows ∧ (s.elapse n).store = s.store ∧ (s.elapse n).upd.waiting = s.upd.waiting := by
  unfold State.elapse
  split <;> exact ⟨rfl, rfl, rfl⟩

theorem exec_writeHoldExpired (h : s.settled) (hs : s.upd.state = .held x f t) :
    exec .writeHoldExpired s = .next ((s.elapse (t.limit.toNat - t.elapsed)).expireHold x f).judgeAttn := by
  change event State.holdRunsOut s = _
  rw [event_of_settled _ _ h, State.holdRunsOut, hs]

end

/-- Settles O17: the decision on the held write, with its timer, in each case; and what the batch becomes when the hold runs out. -/
theorem heldWriteEnds : Obligations.HeldWriteEnds := by
  refine ⟨?_, ?_, ?_, ?_, ?_, ?_, ?_, ?_⟩
  · intro w f t id es s hr hs hmet hb hclosing hfits
    have hv := (verdict_of_room hb true fun hc => absurd hc hclosing).trans (stageVerdict_accepts true hfits)
    rw [exec_reconsider hr hs hmet, State.stageWrite_accept (timer := some t) hb hclosing hv]
  · intro w f t id es s hr hs hwait hroom hb hclosing hfits
    have hv := (verdict_of_room hb true fun _ => hroom).trans (stageVerdict_accepts true hfits)
    rw [exec_reconsider hr hs (wait_met_of_room hwait hroom), State.stageWrite_close (timer := some t) hb hclosing hv]
  · intro w t id es s hr hs hfree hfull hb hclosing
    have hv : verdict (s.ensureOpen w.window) true w = .hold .listRoom := verdict_of_full hb true hclosing hfull
    rw [exec_reconsider hr hs (.inl ⟨rfl, hfree⟩), State.stageWrite_hold (timer := some t) hb hv]
    rfl
  · intro w t id es s hr hs hroom hb hword hlimit hstore hfree
    have hfull : fullVerdict true s.store.writeHoldLimit s.someWillFree = .hold .stagingEntry := by
      rw [s.someWillFree_iff.2 hfree]; rfl
    have hv := ((verdict_of_room hb true fun _ => hroom).trans (stageVerdict_full true hword hlimit hstore)).trans hfull
    rw [exec_reconsider hr hs (.inr ⟨rfl, hroom⟩), State.stageWrite_hold (timer := some t) hb hv]
    rfl
  · intro cause w f t id es s hr hs hwait hroom hb hword hcause
    have hstage : stageVerdict s true w es = .spoil cause := by
      rcases hcause with ⟨hlimit, rfl⟩ | ⟨hlimit, hstore, hnone, rfl⟩
      · exact stageVerdict_batchLimit true hword hlimit
      · rw [stageVerdict_full true hword hlimit hstore, s.someWillFree_eq_false hnone]; rfl
    have hv := (verdict_of_room hb true fun _ => hroom).trans hstage
    rw [exec_reconsider hr hs (wait_met_of_room hwait hroom), State.stageWrite_spoil (timer := some t) hb hv]
    rfl
  · intro s hr hdue
    rw [exec_heldWriteReconsidered hr, State.settleWrite, hdue, if_neg Bool.false_ne_true]
  · intro w f t id es s u h hs hb hu
    subst hu
    obtain ⟨hwin, hstore, hwait⟩ := s.elapse_frame (t.limit.toNat - t.elapsed)
    have hb' : (s.elapse (t.limit.toNat - t.elapsed)).batchFor w.window = some (id, es) := by
      rw [State.batchFor, State.win, hwin, hstore]; exact hb
    have hstore' : (s.elapse (t.limit.toNat - t.elapsed)).storeFor w.window = s.storeFor w.window := by
      rw [State.storeFor, State.win, hwin, hstore]; rfl
    rw [exec_writeHoldExpired h hs, State.expireHold_of_batchFor hb', State.spoiledBy, hstore', hwait, f.expiryCause_eq]
  · intro w f t id cause s u h hs hopen hu
    subst hu
    obtain ⟨hwin, -, hwait⟩ := s.elapse_frame (t.limit.toNat - t.elapsed)
    have hopen' : ((s.elapse (t.limit.toNat - t.elapsed)).win w.window).openBatch = some (.spoiled id cause) := by
      rw [State.win, hwin]; exact hopen
    rw [exec_writeHoldExpired h hs, State.expireHold_spoiled hopen', ← hwait]
    rfl

end Sys2Proof.Machine
end

section
/-! SUPPORT. The lanes of a write, the entry list that has taken one, and the update view (R19, R20, R41). -/

namespace Sys2Proof.Machine

/-! ### Lanes and word addresses (R19) -/

/-- The byte that data standing from byte m of a word on gives to byte k of it. -/
def byteAt (m : Nat) (bytes : List Byte) (k : Nat) : Option Byte := if m ≤ k then bytes[k - m]? else none

/-- The four lanes of an aligned write of each size, at each place that it may have in its word. -/
theorem writeLanes_eq (a : Word) (d : WriteData) (h : a.toNat % sizeBytes (dataSize d) = 0) :
    writeLanes a d = ⟨byteAt (a.toNat % 4) (dataBytes d) 0, byteAt (a.toNat % 4) (dataBytes d) 1,
      byteAt (a.toNat % 4) (dataBytes d) 2, byteAt (a.toNat % 4) (dataBytes d) 3⟩ := by
  cases d with
  | one b0 =>
    have hm : a.toNat % 4 = 0 ∨ a.toNat % 4 = 1 ∨ a.toNat % 4 = 2 ∨ a.toNat % 4 = 3 := by omega
    rcases hm with hm | hm | hm | hm <;> simp [writeLanes, laneOf, hm, dataBytes, byteAt]
  | two b0 b1 =>
    have heven : a.toNat % 2 = 0 := h
    have hm : a.toNat % 4 = 0 ∨ a.toNat % 4 = 2 := by omega
    rcases hm with hm | hm <;> simp [writeLanes, laneOf, hm, dataBytes, byteAt]
  | four b0 b1 b2 b3 =>
    have hm : a.toNat % 4 = 0 := h
    simp [writeLanes, hm, dataBytes, byteAt]

theorem laneAt_ofFn {α : Type} (f : Nat → α) (k : Fin 4) : laneAt ⟨f 0, f 1, f 2, f 3⟩ k.val = f k.val := by
  match k with
  | 0 => rfl
  | 1 => rfl
  | 2 => rfl
  | 3 => rfl

theorem writeLanes_laneAt (a : Word) (d : WriteData) (k : Fin 4) (h : a.toNat % sizeBytes (dataSize d) = 0) :
    laneAt (writeLanes a d) k.val = if a.toNat % 4 ≤ k.val then (dataBytes d)[k.val - a.toNat % 4]? else none := by
  rw [writeLanes_eq a d h, laneAt_ofFn (byteAt (a.toNat % 4) (dataBytes d)), byteAt]

/-- The bits of the mask that a word address is cut with. -/
theorem wordMask_getLsbD (n : Fin 32) : (0xFFFFFFFC#32).getLsbD n.val = decide (2 ≤ n.val) := by
  revert n; decide

/-- Cutting off the two lowest bits is a shift down and up again. -/
theorem wordAddr_eq_shift (a : Word) : wordAddr a = (a >>> 2) <<< 2 := by
  refine BitVec.eq_of_getLsbD_eq fun n hn => ?_
  rw [wordAddr, BitVec.getLsbD_and, wordMask_getLsbD ⟨n, hn⟩, BitVec.getLsbD_shiftLeft, BitVec.getLsbD_ushiftRight]
  by_cases h : n < 2
  · simp [h, Nat.not_le.2 h]
  · have hback : 2 + (n - 2) = n := by omega
    simp [hn, h, hback, Nat.not_lt.1 h]

theorem wordAddr_toNat (a : Word) : (wordAddr a).toNat = a.toNat - a.toNat % 4 := by
  rw [wordAddr_eq_shift, BitVec.toNat_shiftLeft, BitVec.toNat_ushiftRight, Nat.shiftLeft_eq, Nat.shiftRight_eq_div_pow]
  have ha : a.toNat < 2 ^ 32 := a.isLt
  omega

/-! ### An entry list that has taken a write (R20) -/

theorem laneAt_overlay (new old : Quad (Option Byte)) (k : Nat) :
    laneAt (overlay new old) k = (laneAt new k <|> laneAt old k) := by
  unfold laneAt
  split <;> rfl

theorem entryLane_cons (b : Word) (k : Nat) (e : Entry) (es : List Entry) :
    entryLane b k (e :: es) = if e.addr = b then laneAt e.lanes k else entryLane b k es := by
  unfold entryLane
  by_cases h : e.addr = b <;> simp [h]

/-- A word that no entry has gives no staged byte. -/
theorem entryLane_of_not_hasWord {b : Word} {es : List Entry} (k : Nat) (h : hasWord b es = false) :
    entryLane b k es = none := by
  have hnone : es.find? (·.addr == b) = none := List.find?_eq_none.2 (by simpa [hasWord] using h)
  rw [entryLane, hnone]

section
variable {a b : Word} (lanes : Quad (Option Byte)) (es : List Entry) (k : Nat)

/-- Coalescing leaves the entries of other words. -/
theorem entryLane_coalesce_other (hba : b ≠ a) : entryLane b k (coalesce a lanes es) = entryLane b k es := by
  induction es with
  | nil => rfl
  | cons e es ih =>
    change entryLane b k ((if e.addr = a then { e with lanes := overlay lanes e.lanes } else e) :: coalesce a lanes es) = _
    by_cases he : e.addr = a
    · have hne : ¬ e.addr = b := fun h => hba (h.symm.trans he)
      rw [if_pos he, entryLane_cons, entryLane_cons, if_neg hne, if_neg hne, ih]
    · rw [if_neg he, entryLane_cons, entryLane_cons, ih]

/-- Coalescing overlays the word's entry. -/
theorem entryLane_coalesce_same (h : hasWord a es = true) :
    entryLane a k (coalesce a lanes es) = (laneAt lanes k <|> entryLane a k es) := by
  induction es with
  | nil => cases h
  | cons e es ih =>
    change entryLane a k ((if e.addr = a then { e with lanes := overlay lanes e.lanes } else e) :: coalesce a lanes es) = _
    by_cases he : e.addr = a
    · rw [if_pos he, entryLane_cons, entryLane_cons, if_pos he, if_pos he, laneAt_overlay]
    · have hrest : hasWord a es = true := by simpa [hasWord, he] using h
      rw [if_neg he, entryLane_cons, entryLane_cons, if_neg he, if_neg he, ih hrest]

theorem entryLane_append_other (hba : b ≠ a) : entryLane b k (es ++ [⟨a, lanes⟩]) = entryLane b k es := by
  induction es with
  | nil => exact (entryLane_cons ..).trans (if_neg hba.symm)
  | cons e es ih => rw [List.cons_append, entryLane_cons, entryLane_cons, ih]

theorem entryLane_append_new (h : hasWord a es = false) : entryLane a k (es ++ [⟨a, lanes⟩]) = laneAt lanes k := by
  induction es with
  | nil => exact (entryLane_cons ..).trans (if_pos rfl)
  | cons e es ih =>
    obtain ⟨he, hrest⟩ : ¬ e.addr = a ∧ hasWord a es = false := by simpa [hasWord] using h
    rw [List.cons_append, entryLane_cons, if_neg he, ih hrest]

end

/-- The word's entry has the write's bytes over its older ones, whether it was there or is new; other words keep their entries. -/
theorem entryLane_entriesWith (a b : Word) (lanes : Quad (Option Byte)) (es : List Entry) (k : Nat) :
    entryLane b k (entriesWith a lanes es) =
      if b = a then (laneAt lanes k <|> entryLane a k es) else entryLane b k es := by
  by_cases hword : hasWord a es = true
  · have hwith : entriesWith a lanes es = coalesce a lanes es := if_pos hword
    by_cases hba : b = a
    · rw [hwith, hba, if_pos rfl, entryLane_coalesce_same lanes es k hword]
    · rw [hwith, if_neg hba, entryLane_coalesce_other lanes es k hba]
  · have hwith : entriesWith a lanes es = es ++ [⟨a, lanes⟩] := if_neg hword
    have hnone := Bool.eq_false_iff.2 hword
    by_cases hba : b = a
    · rw [hwith, hba, if_pos rfl, entryLane_append_new lanes es k hnone, entryLane_of_not_hasWord k hnone]
      cases laneAt lanes k <;> rfl
    · rw [hwith, if_neg hba, entryLane_append_other lanes es k hba]

/-! ### The update view (R41) -/

/-- The search order of the view is the open batch, then the waiting list from the newest on. -/
theorem Window.viewLane_eq (w : Window) (a : Word) (k : Nat) : w.viewLane a k =
    (entryLane a k (openEntries w.openBatch) <|> (w.waiting.reverse.findSome? fun b => entryLane a k b.entries)) := by
  rw [Window.viewLane, Window.viewOrder, List.findSome?_cons, List.findSome?_map]
  cases entryLane a k (openEntries w.openBatch) <;> rfl

/-- Settles O18: lane by lane for each size of write, then the two ways an entry list takes a write, then the order of the view. -/
theorem lanesAndUpdateView : Obligations.LanesAndUpdateView :=
  ⟨fun a d k h => ⟨writeLanes_laneAt a d k h, wordAddr_toNat a⟩,
    fun a b lanes es k _ => entryLane_entriesWith a b lanes es k.val,
    fun w a k => w.viewLane_eq a k.val, fun _ _ => rfl⟩

end Sys2Proof.Machine
end

section
/-! SUPPORT. BATCH_CLOSE and BATCH_DISCARD (R36 to R39), and the two port-side resets (R43, R60, R61, R127). -/

namespace Sys2Proof.Machine

/-! ### The four checks of the batch commands (R36, R37) -/

section
variable {index : Byte} {i : WIdx} {d : Descriptor} {h : HeldFields} {s : State} {act : WIdx → State → State}

theorem State.onActiveHeld_badIndex (hi : windowIndex index = none) : s.onActiveHeld index act = s.refuse .badArgument := by
  simp only [State.onActiveHeld, hi]

theorem State.onActiveHeld_free (hi : windowIndex index = some i) (hp : (s.win i).place = .free) :
    s.onActiveHeld index act = s.refuse .noWindow := by
  simp only [State.onActiveHeld, hi, hp]

theorem State.onActiveHeld_pass (hi : windowIndex index = some i)
    (hp : (s.win i).place = .active d ∨ (s.win i).place = .faulted d) (hd : d.cls = .pass) :
    s.onActiveHeld index act = s.refuse .notHeld := by
  have hheld : ¬ d.isHeld = true := fun hheld => Descriptor.isHeld_iff.1 hheld hd
  rcases hp with hp | hp
  · simp only [State.onActiveHeld, hi, hp, if_neg hheld]
  · simp only [State.onActiveHeld, hi, hp, if_neg hheld]

theorem State.onActiveHeld_faulted (hi : windowIndex index = some i) (hp : (s.win i).place = .faulted d)
    (hd : d.cls ≠ .pass) : s.onActiveHeld index act = s.refuse .faulted := by
  simp only [State.onActiveHeld, hi, hp, if_pos (Descriptor.isHeld_iff.2 hd)]

theorem Place.activeHeld_eq_some {p : Place} (hp : p.activeHeld = some h) :
    ∃ d : Descriptor, p = .active d ∧ d.isHeld = true := by
  cases p with
  | free => cases hp
  | faulted d => cases hp
  | active d => exact ⟨d, rfl, Option.isSome_iff_exists.2 ⟨h, hp⟩⟩

/-- On an ACTIVE HELD window the command acts. -/
theorem State.onActiveHeld_act (hi : windowIndex index = some i) (hp : (s.win i).place.activeHeld = some h) :
    s.onActiveHeld index act = act i s := by
  obtain ⟨d, hactive, hheld⟩ := Place.activeHeld_eq_some hp
  simp only [State.onActiveHeld, hi, hactive, if_pos hheld]

/-- BATCH_CLOSE and the three rows of BATCH_DISCARD answer a refusal alike. -/
theorem batchCommands_refused {r : Result} (tag : Byte) (ht : s.takesCommands)
    (hr : ∀ (act : WIdx → State → State) (t : State), t.windows = s.windows → t.onActiveHeld index act = t.refuse r) :
    exec (.batchClose tag index) s = .next (State.answered tag r [] s) ∧
      exec (.batchDiscardOpen tag index) s = .next (State.answered tag r [] s) ∧
      exec (.batchDiscardWaiting tag index) s = .next (State.answered tag r [] s) ∧
      exec (.batchDiscardQueued tag index) s = .next (State.answered tag r [] s) :=
  ⟨event_takeRequest_only_answered ht (hr _ _ rfl), event_takeRequest_only_answered ht (hr _ _ rfl),
    event_takeRequest_only_answered ht (hr _ _ rfl), event_takeRequest_only_answered ht (hr _ _ rfl)⟩

end

/-- What a batch command answers on an ACTIVE HELD window, where its act is a reply over a change that leaves the slot alone. -/
theorem event_onActiveHeld {act : WIdx → State → State} {tag index code : Byte} {p q : List Byte} {i : WIdx} {h : HeldFields}
    {r : Result} {s t : State} (hs : s.takesCommands) (hi : index.toNat = i.val)
    (hp : (s.win i).place.activeHeld = some h) (ht : t.svc = s.svc)
    (hact : act i (s.inSlot tag code p) = State.reply r q { t with svc := (s.inSlot tag code p).svc }) :
    event (State.takeRequest tag code p (State.onActiveHeld index act)) s = .next (State.answered tag r q t) :=
  event_takeRequest_answered hs ht ((State.onActiveHeld_act (s := s.inSlot tag code p) (windowIndex_eq_some hi) hp).trans hact)

/-! ### The reply and the queueing from an IMMEDIATE window -/

/-- The reply reaches the Service Link Unit alone, so queueing may come before it or after it. -/
theorem State.queueImmediate_reply (i : WIdx) (r : Result) (q : List Byte) (s : State) :
    (s.reply r q).queueImmediate i = (s.queueImmediate i).reply r q :=
  State.queueImmediate_comm (State.reply r q) i s fun t w e => by
    unfold State.reply
    cases t.svc.slot <;> rfl

theorem State.queueImmediate_setSvc (i : WIdx) (u : ServiceUnit) (s : State) :
    State.queueImmediate i { s with svc := u } = { s.queueImmediate i with svc := u } :=
  State.queueImmediate_comm (fun t => { t with svc := u }) i s fun _ _ _ => rfl

/-- The same for an act whose change ends with the queueing from an IMMEDIATE window. -/
theorem event_onActiveHeld_queued {act : WIdx → State → State} {tag index code : Byte} {p q : List Byte} {i : WIdx}
    {h : HeldFields} {r : Result} {s t : State} (hs : s.takesCommands) (hi : index.toNat = i.val)
    (hp : (s.win i).place.activeHeld = some h) (ht : t.svc = s.svc)
    (hact : act i (s.inSlot tag code p) =
      State.reply r q (State.queueImmediate i { t with svc := (s.inSlot tag code p).svc })) :
    event (State.takeRequest tag code p (State.onActiveHeld index act)) s =
      .next (State.answered tag r q (t.queueImmediate i)) := by
  rw [State.queueImmediate_setSvc] at hact
  exact event_onActiveHeld hs hi hp ((State.queueImmediate_svc i t).trans ht) hact

/-! ### BATCH_CLOSE (R36) -/

section
variable {i : WIdx} {id : Half} {s : State}

theorem State.closeOpen_none (ho : (s.win i).openBatch = none) : s.closeOpen i = s.refuse .empty := by
  rw [State.closeOpen, ho]

theorem State.closeOpen_empty (ho : (s.win i).openBatch = some (.gathering id [])) : s.closeOpen i = s.refuse .empty := by
  rw [State.closeOpen, ho]

theorem State.closeOpen_spoiled {cause : SpoilCause} (ho : (s.win i).openBatch = some (.spoiled id cause)) :
    s.closeOpen i = (s.emptySlot i).reply .spoiled [] := by
  rw [State.closeOpen, ho]

theorem State.closeOpen_full {es : List Entry} (ho : (s.win i).openBatch = some (.gathering id es)) (hne : es ≠ [])
    (hfull : 4 ≤ (s.win i).waiting.length) : s.closeOpen i = s.refuse .full := by
  obtain ⟨e, es, rfl⟩ := List.exists_cons_of_ne_nil hne
  rw [State.closeOpen, ho]
  simp only [(Window.hasRoom_eq_false _).2 hfull, Bool.false_eq_true, if_false]

theorem State.closeOpen_ok {es : List Entry} (ho : (s.win i).openBatch = some (.gathering id es)) (hne : es ≠ [])
    (hroom : (s.win i).waiting.length < 4) : s.closeOpen i =
      State.reply .ok (be16 id ++ [BitVec.ofNat 8 es.length]) (State.queueImmediate i (s.setWin i { s.win i with
        openBatch := none, waiting := (s.win i).waiting ++ [⟨id, es, .closed, .closeCommand, none⟩] })) := by
  obtain ⟨e, es, rfl⟩ := List.exists_cons_of_ne_nil hne
  rw [State.closeOpen, ho]
  simp only [(Window.hasRoom_iff _).2 hroom, if_true]
  rfl

end

/-- Settles O52: the checks by the index and the place, and the act by the open batch and the room in the list. -/
theorem batchCloseAndChecks : Obligations.BatchCloseAndChecks := by
  refine ⟨?_, ?_, ?_, ?_, ?_, ?_, ?_, ?_, ?_⟩
  · intro tag index i h s hs hi hp ho
    exact event_onActiveHeld hs hi hp rfl (State.closeOpen_none ho)
  · intro tag index i h id es s hs hi hp ho hes
    subst hes
    exact event_onActiveHeld hs hi hp rfl (State.closeOpen_empty ho)
  · intro tag index i h id cause s hs hi hp ho
    exact event_onActiveHeld hs hi hp rfl (State.closeOpen_spoiled ho)
  · intro tag index i h id es s hs hi hp ho hne hfull
    exact event_onActiveHeld hs hi hp rfl (State.closeOpen_full ho hne hfull)
  · intro tag index i h id es s hs hi hp ho hne hroom
    exact event_onActiveHeld_queued hs hi hp rfl (State.closeOpen_ok (s := s.inSlot tag 0x20 [index]) ho hne hroom)
  · intro tag index s hs hi
    exact batchCommands_refused tag hs fun _ _ _ => State.onActiveHeld_badIndex (windowIndex_eq_none hi)
  · intro tag index i s hs hi hp
    exact batchCommands_refused tag hs fun _ t hw =>
      State.onActiveHeld_free (windowIndex_eq_some hi) (by rw [State.win, hw]; exact hp)
  · intro tag index i d s hs hi hp hd
    exact batchCommands_refused tag hs fun _ t hw =>
      State.onActiveHeld_pass (windowIndex_eq_some hi) (by rw [State.win, hw]; exact hp) hd
  · intro tag index i d s hs hi hp hd
    exact batchCommands_refused tag hs fun _ t hw =>
      State.onActiveHeld_faulted (windowIndex_eq_some hi) (by rw [State.win, hw]; exact hp) hd

/-! ### BATCH_DISCARD (R37 to R39) -/

section
variable {i : WIdx} {s : State}

theorem State.discardTargetOpen_none (ho : (s.win i).openBatch = none) : s.discardTargetOpen i = s.refuse .none := by
  rw [State.discardTargetOpen, ho]

/-- The held write of the window is answered FAULT, and the open batch leaves with its record (R37). -/
theorem State.discardTargetOpen_some {b : OpenBatch} (ho : (s.win i).openBatch = some b) : s.discardTargetOpen i =
    State.reply .ok [0x01] { s.setWin i { s.win i with openBatch := none } with
      upd := s.updFaulted i
      rep := s.rep.take (.batchDiscarded i b.id .command) } := by
  have hopen : (State.win { s with upd := s.updFaulted i } i).openBatch = some b := ho
  rw [State.discardTargetOpen, ho]
  simp only [State.faultHeldOf_eq, State.discardOpen, hopen]
  rfl

theorem State.discardTargetWaiting_none (hw : (s.win i).closedBatches = []) :
    s.discardTargetWaiting i = s.refuse .none := by
  simp only [State.discardTargetWaiting, hw, List.isEmpty_nil, if_true]

/-- Every CLOSED batch leaves, oldest first, each with its record (R38). -/
theorem State.discardTargetWaiting_some (hw : (s.win i).closedBatches ≠ []) : s.discardTargetWaiting i =
    State.reply .ok [num8 (s.win i).closedBatches.length]
      { s.setWin i { s.win i with waiting := (s.win i).waiting.filter fun b => b.state != .closed } with
        rep := ((s.win i).closedBatches.map fun b => .batchDiscarded i b.id .command).foldl ReportUnit.take s.rep } := by
  rw [State.discardTargetWaiting, List.isEmpty_eq_false_iff.2 hw, if_neg Bool.false_ne_true, State.discardClosed,
    State.foldl_record (fun b : WaitBatch => .batchDiscarded i b.id .command)]
  rfl

theorem State.discardTargetQueued_none (hw : (s.win i).waiting.head?.all (fun b => b.state == .closed) = true) :
    s.discardTargetQueued i = s.refuse .none := by
  unfold State.discardTargetQueued
  cases hl : (s.win i).waiting with
  | nil => rfl
  | cons b ws =>
    have hb : b.state = .closed := by simpa [hl] using hw
    simp only [hb]

theorem State.discardTargetQueued_late {b : WaitBatch} {ws : List WaitBatch} (hw : (s.win i).waiting = b :: ws)
    (hb : b.state = .committing ∨ b.state = .rollingBack) : s.discardTargetQueued i = s.refuse .late := by
  rw [State.discardTargetQueued, hw]
  rcases hb with hb | hb <;> simp only [hb]

/-- The oldest batch, QUEUED, leaves the list and the commit queue with its record (R39, R80). -/
theorem State.discardQueued_head {b : WaitBatch} {ws : List WaitBatch} (cause : DiscardCause)
    (hw : (s.win i).waiting = b :: ws) (hb : b.state = .queued) : s.discardQueued i cause =
      { s.setWin i { s.win i with waiting := ws } with
        engine := { s.engine with queue := s.engine.queue.filter fun q => q.1 != i }
        rep := s.rep.take (.batchDiscarded i b.id cause) } := by
  have hqueued : (s.win i).queuedBatch = some b := by simp [Window.queuedBatch, hw, hb]
  have herase : (s.win i).waiting.eraseP (fun b => b.state == .queued) = ws := by simp [hw, hb]
  simp only [State.discardQueued, hqueued, State.mapWin_eq_setWin, herase]
  rfl

theorem State.discardTargetQueued_ok {b : WaitBatch} {ws : List WaitBatch} (hw : (s.win i).waiting = b :: ws)
    (hb : b.state = .queued) : s.discardTargetQueued i =
      State.reply .ok [0x01] (State.queueImmediate i { s.setWin i { s.win i with waiting := ws } with
        engine := { s.engine with queue := s.engine.queue.filter fun q => q.1 != i }
        rep := s.rep.take (.batchDiscarded i b.id .command) }) := by
  rw [State.discardTargetQueued, hw]
  simp only [hb]
  rw [State.discardQueued_head .command hw hb, State.queueImmediate_reply]

end

/-- Settles O53: each target by what it finds, the change that it makes, and the reply over it. -/
theorem batchDiscard : Obligations.BatchDiscard := by
  refine ⟨?_, ?_, ?_, ?_, ?_, ?_, ?_⟩
  · intro tag index i h s hs hi hp ho
    exact event_onActiveHeld hs hi hp rfl (State.discardTargetOpen_none ho)
  · intro tag index i h b s hs hi hp ho
    cases b <;> exact event_onActiveHeld hs hi hp rfl
      (State.discardTargetOpen_some (s := s.inSlot tag 0x21 [index, 0x01]) ho)
  · intro tag index i h s hs hi hp hw
    have hnone : (s.win i).closedBatches = [] := by simpa [Window.closedBatches] using hw
    exact event_onActiveHeld hs hi hp rfl (State.discardTargetWaiting_none hnone)
  · intro tag index i h cs s hs hi hp hcs hne
    subst hcs
    exact event_onActiveHeld hs hi hp rfl (State.discardTargetWaiting_some hne)
  · intro tag index i h s hs hi hp hw
    exact event_onActiveHeld hs hi hp rfl (State.discardTargetQueued_none hw)
  · intro tag index i h b ws s hs hi hp hw hb
    exact event_onActiveHeld hs hi hp rfl (State.discardTargetQueued_late hw hb)
  · intro tag index i h b ws s hs hi hp hw hb
    exact event_onActiveHeld_queued hs hi hp rfl (State.discardTargetQueued_ok (s := s.inSlot tag 0x21 [index, 0x03]) hw hb)

/-! ### The update-side discard (R43, R96) -/

/-- A change of each window of a list reaches each of them once, and nothing else. -/
theorem State.foldl_mapWin_win (f : Window → Window) (l : List WIdx) (hl : l.Nodup) (s : State) (j : WIdx) :
    (l.foldl (fun t i => t.mapWin i f) s).win j = if j ∈ l then f (s.win j) else s.win j := by
  induction l generalizing s with
  | nil => rfl
  | cons i l ih =>
    obtain ⟨hi, hl⟩ := List.nodup_cons.1 hl
    rw [List.foldl_cons, ih hl]
    by_cases hij : i = j
    · subst hij
      rw [if_neg hi, if_pos (List.mem_cons_self ..), State.mapWin_win_same]
    · have hmem : j ∈ i :: l ↔ j ∈ l := by simp [Ne.symm hij]
      simp only [State.mapWin_win_other _ _ _ _ hij, hmem]

theorem State.foldl_mapWin_frame (f : Window → Window) (l : List WIdx) (s : State) :
    l.foldl (fun t i => t.mapWin i f) s =
      { s with windows := (l.foldl (fun t i => t.mapWin i f) s).windows } := by
  induction l generalizing s with
  | nil => rfl
  | cons i l ih => exact ih (s.mapWin i f)

/-- A change of all sixteen windows. -/
theorem State.foldl_mapWin_all (f : Window → Window) (s : State) :
    allWindows.foldl (fun t i => t.mapWin i f) s = { s with windows := s.windows.map f } := by
  have hwindows : (allWindows.foldl (fun t i => t.mapWin i f) s).windows = s.windows.map f := by
    refine Vector.ext fun n hn => ?_
    have hwin := State.foldl_mapWin_win f allWindows (by decide) s ⟨n, hn⟩
    rw [if_pos (mem_allWindows _)] at hwin
    rw [Vector.getElem_map]
    exact hwin
  rw [State.foldl_mapWin_frame, hwindows]

/-- The batches that the update-side discard takes of a waiting list are the CLOSED and the QUEUED ones. -/
theorem WaitBatch.not_kept (b : WaitBatch) : (!b.kept) = (b.state == .closed || b.state == .queued) := by
  unfold WaitBatch.kept
  cases b.state <;> rfl

theorem State.resetCount_eq (s : State) : s.resetCount = s.discarded := by
  unfold State.resetCount State.discarded Window.resetCount
  simp only [WaitBatch.not_kept]

/-- The update-side discard, which keeps a COMMITTING or ROLLING_BACK batch (R43, R44). -/
theorem State.discardAll_eq (scope : ResetScope) (s : State) : s.discardAll scope =
    { s with
      windows := s.windowsKept
      engine := { s.engine with queue := [] }
      rep := s.rep.take (.resetDiscard scope s.discarded) } := by
  simp only [State.discardAll, State.foldl_mapWin_all, State.resetCount_eq]
  rfl

/-! ### The port-side resets (R60, R61, R127) -/

theorem exec_urstnAsserted {s : State} (h : s.settled) : exec .urstnAsserted s = .next s.updateReset.judgeAttn := by
  change (if s.pins.resetn then _ else event State.updateReset s) = _
  rw [h.1, if_neg Bool.false_ne_true, event_of_settled _ _ h]

theorem exec_urstnDeasserted {s : State} (h : s.settled) :
    exec .urstnDeasserted s = .next (State.judgeAttn { s with pins := { s.pins with urstn := false } }) := by
  change (if s.pins.resetn then _ else event _ s) = _
  rw [h.1, if_neg Bool.false_ne_true, event_of_settled _ _ h]

theorem exec_crstnAsserted {s : State} (h : s.settled) : exec .crstnAsserted s = .next s.cycleReset.judgeAttn := by
  change (if s.pins.resetn then _ else event State.cycleReset s) = _
  rw [h.1, if_neg Bool.false_ne_true, event_of_settled _ _ h]

theorem exec_crstnDeasserted {s : State} (h : s.settled) :
    exec .crstnDeasserted s = .next (State.judgeAttn { s with pins := { s.pins with crstn := false } }) := by
  change (if s.pins.resetn then _ else event _ s) = _
  rw [h.1, if_neg Bool.false_ne_true, event_of_settled _ _ h]

/-- A waiting request is withdrawn, an access on the port drains, and a held write is dropped (R60). -/
theorem State.abandonUpdate_eq (s : State) : s.abandonUpdate = { s with
    upd := { s.upd with state := match s.upd.state with
      | .idle => .idle
      | .requested _ => .idle
      | .atMemory t => .draining t
      | .held _ _ _ => .idle
      | .draining t => .draining t }
    arb := { s.arb with up := match s.upd.state with
      | .requested _ => none
      | _ => s.arb.up } } := by
  obtain ⟨_, _, _, ⟨state, _, _⟩, _, _, _, _, _, _, _⟩ := s
  cases state <;> rfl

/-- The same of the cycle port, for a held read (R127). -/
theorem State.abandonCycle_eq (s : State) : s.abandonCycle = { s with
    cyc := { s.cyc with state := match s.cyc.state with
      | .idle => .idle
      | .requested _ => .idle
      | .atMemory t => .draining t
      | .held _ => .idle
      | .draining t => .draining t }
    arb := { s.arb with cp := match s.cyc.state with
      | .requested _ => none
      | _ => s.arb.cp } } := by
  obtain ⟨_, _, _, _, ⟨state, _, _⟩, _, _, _, _, _, _⟩ := s
  cases state <;> rfl

/-- The act of a falling edge of URSTN (R43, R60). -/
theorem State.updateReset_of_deasserted {s : State} (h : s.pins.urstn = false) : s.updateReset =
    State.discardAll .updateReset (State.abandonUpdate { s with pins := { s.pins with urstn := true } }) :=
  if_neg (Bool.eq_false_iff.1 h)

/-- The act of a falling edge of CRSTN (R127). -/
theorem State.cycleReset_of_deasserted {s : State} (h : s.pins.crstn = false) :
    s.cycleReset = State.abandonCycle { s with pins := { s.pins with crstn := true } } :=
  if_neg (Bool.eq_false_iff.1 h)

/-- Settles O7: an edge of a reset line abandons the port's transaction, that of URSTN discards the update-side batches besides, and
a repeated assertion or a release does neither. -/
theorem portSideResets : Obligations.PortSideResets := by
  refine ⟨?_, ?_, fun s h => exec_urstnDeasserted h, ?_, ?_, fun s h => exec_crstnDeasserted h⟩
  · intro s h hline
    have hact := (State.updateReset_of_deasserted hline).trans (State.discardAll_eq ..)
    rw [State.abandonUpdate_eq] at hact
    exact (exec_urstnAsserted h).trans (congrArg (fun t => Host.Outcome.next (State.judgeAttn t)) hact)
  · intro s h hline
    rw [exec_urstnAsserted h, State.updateReset, if_pos hline]
  · intro s h hline
    have hact := (State.cycleReset_of_deasserted hline).trans (State.abandonCycle_eq _)
    exact (exec_crstnAsserted h).trans (congrArg (fun t => Host.Outcome.next (State.judgeAttn t)) hact)
  · intro s h hline
    rw [exec_crstnAsserted h, State.cycleReset, if_pos hline]

end Sys2Proof.Machine
end

section
/-! SUPPORT. The Update Port Unit (R46 to R56, R61): what taking a request does for each decode, what the end of its access does, and
the requests that wait on the two handshakes (R47, R118). -/

namespace Sys2Proof.Machine

/-! ### The end of an access of the update port (R51 to R53, R55, R56, R61) -/

theorem exec_memoryAnswer {s : State} (h : s.settled) (ans : MemAnswer) :
    exec (.memoryAnswer ans) s = .next (s.endAccess (answerEnd ans)).judgeAttn :=
  event_of_settled _ _ h

/-- An access of the update port ends with the port FREE and its outcome handed to the Update Port Unit (R136). -/
theorem State.endAccess_of_up {s : State} (h : s.accessBy .up) (o : AccessEnd) :
    s.endAccess o = s.portFreed.endUpdateAccess o := by
  obtain ⟨p, hport, howner⟩ := Option.map_eq_some_iff.1 h.2
  simp only [State.endAccess, hport, howner]
  rfl

theorem exec_memoryAnswer_done_up {s : State} (h : s.accessBy .up) (data : Quad Byte) :
    exec (.memoryAnswer (.done data)) s = .next (s.portFreed.endUpdateAccess (.done data)).judgeAttn := by
  rw [exec_memoryAnswer h.1, State.endAccess_of_up h]
  rfl

section
variable {t : UpdateTxn} {s : State}

/-- A read is answered with memory's bytes, the staged bytes over them (R42, R51, R56). -/
theorem State.endUpdateAccess_read {a : Word} {size : Size} (hs : s.upd.state = .atMemory t) (hr : t.req = .read a size)
    (data : Quad Byte) : s.endUpdateAccess (.done data) = { s with
      upd := ⟨.idle, some (.done (mergeBytes t.staged (readBytes size data))), s.upd.waiting⟩ } := by
  simp only [State.endUpdateAccess, hs, hr]
  rfl

/-- A write is answered DONE, and tapped as its decode says (R52, R55). -/
theorem State.endUpdateAccess_write {a : Word} {d : WriteData} (hs : s.upd.state = .atMemory t) (hr : t.req = .write a d)
    (data : Quad Byte) : s.endUpdateAccess (.done data) = { s with
      upd := ⟨.idle, some (.done []), s.upd.waiting⟩
      rep := if t.decode.tapsUpdate then s.rep.take (.tap .update a d) else s.rep } := by
  simp only [State.endUpdateAccess, hs, hr]
  cases t.decode.tapsUpdate <;> rfl

/-- A failed access is recorded and answered FAULT (R53). -/
theorem State.endUpdateAccess_failed (hs : s.upd.state = .atMemory t) (how : MemFailure) :
    s.endUpdateAccess (.failed how) = { s with
      upd := ⟨.idle, some .fault, s.upd.waiting⟩
      rep := s.rep.take (.memoryError .up (wordAddr (reqAddr t.req)) how) } := by
  simp only [State.endUpdateAccess, hs]
  rfl

/-- A drained access is not answered (R61). -/
theorem State.endUpdateAccess_drained (hs : s.upd.state = .draining t) (data : Quad Byte) :
    s.endUpdateAccess (.done data) = { s with upd := { s.upd with state := .idle } } := by
  simp only [State.endUpdateAccess, hs]

/-- A drained access that fails is recorded all the same (R61). -/
theorem State.endUpdateAccess_drained_failed (hs : s.upd.state = .draining t) (how : MemFailure) :
    s.endUpdateAccess (.failed how) = { s with
      upd := { s.upd with state := .idle }
      rep := s.rep.take (.memoryError .up (wordAddr (reqAddr t.req)) how) } := by
  simp only [State.endUpdateAccess, hs]
  rfl

end

/-- Settles O34: each end of an access that the update port answers or drains, on the state with the memory port FREE. -/
theorem updateAccessEnds : Obligations.UpdateAccessEnds := by
  refine ⟨?_, ?_, ?_, ?_, ?_⟩
  · intro t a size data s h hs hr
    rw [exec_memoryAnswer_done_up h, State.endUpdateAccess_read (s := s.portFreed) hs hr]
    rfl
  · intro t a d data s h hs hr
    rw [exec_memoryAnswer_done_up h, State.endUpdateAccess_write (s := s.portFreed) hs hr]
    cases t.decode with
    | pass _ _ _ tap => cases tap <;> rfl
    | unmapped => rfl
    | held _ _ _ _ _ => rfl
    | faulted _ => rfl
  · intro t how s h hs
    rw [State.endAccess_of_up h, State.endUpdateAccess_failed (s := s.portFreed) hs]
    rfl
  · intro t data s h hs
    rw [exec_memoryAnswer_done_up h, State.endUpdateAccess_drained (s := s.portFreed) hs]
    rfl
  · intro t how s h hs
    rw [State.endAccess_of_up h, State.endUpdateAccess_drained_failed (s := s.portFreed) hs]
    rfl

/-! ### A request taken by the update port (R47 to R52, R56) -/

/-- Dispatch on a PASS window, by whether its update access permits the kind (R4, R49). -/
theorem State.dispatchUpdate_pass (r : BusRequest) (i : WIdx) (ua ca : Access) (tap : Tap) (s : State) :
    s.dispatchUpdate r (.pass i ua ca tap) =
      if ua.permits (reqKind r) then s.passUpdate r (.pass i ua ca tap) else s.refuseUpdate r i .noAccess := by
  cases ua with
  | none => rfl
  | readWrite => rfl
  | readOnly => cases r <;> rfl

theorem State.dispatchUpdate_held_refused {r : BusRequest} {ua : Access} (h : ua.permits (reqKind r) = false) (i : WIdx)
    (ca : Access) (tap : Tap) (f : HeldFields) (s : State) :
    s.dispatchUpdate r (.held i ua ca tap f) = s.refuseUpdate r i .noAccess := by
  cases ua with
  | none => rfl
  | readWrite => cases h
  | readOnly =>
    cases r with
    | read => cases h
    | write => rfl

theorem State.dispatchUpdate_held_read {ua : Access} (h : ua.permits .read = true) (a : Word) (size : Size) (i : WIdx)
    (ca : Access) (tap : Tap) (f : HeldFields) (s : State) :
    s.dispatchUpdate (.read a size) (.held i ua ca tap f) = s.forwardRead (.read a size) (.held i ua ca tap f) i := by
  cases ua with
  | none => cases h
  | readWrite => rfl
  | readOnly => rfl

section
variable {r : BusRequest} {s : State}

/-- A free port takes its request with no answer yet and none waiting behind it (R47). -/
theorem State.takeUpdate_of_takesUpdates (ht : s.takesUpdates) : s.takeUpdate r =
    if reqAligned r then s.taking.dispatchUpdate r (s.decodeAddr (reqAddr r)) else s.taking.misalignedUpdate r := by
  have htaken : { s with upd := { s.upd with answer := none } } = s.taking := by
    simp only [State.taking, ht.2.1, State.waiting_of_takesUpdates ht]
  simp only [State.takeUpdate, htaken]
  rfl

/-- An aligned request is dispatched on its decode (R48, R49). -/
theorem exec_update_aligned {d : Decode} (ht : s.takesUpdates) (ha : (reqAddr r).toNat % sizeBytes (reqSize r) = 0)
    (hd : s.decodeAddr (reqAddr r) = d) :
    exec (.updateTransactionTaken r) s = .next (s.taking.dispatchUpdate r d).judgeAttn := by
  have hal : reqAligned r = true := beq_iff_eq.2 ha
  rw [exec_updateTransactionTaken ht, State.takeUpdate_of_takesUpdates ht, if_pos hal, hd]

theorem exec_update_misaligned (ht : s.takesUpdates) (ha : (reqAddr r).toNat % sizeBytes (reqSize r) ≠ 0) :
    exec (.updateTransactionTaken r) s = .next (s.taking.misalignedUpdate r).judgeAttn := by
  have hal : ¬ reqAligned r = true := fun hal => ha (beq_iff_eq.1 hal)
  rw [exec_updateTransactionTaken ht, State.takeUpdate_of_takesUpdates ht, if_neg hal]

/-- A transaction that is refused by its decode, for any reason of R49. -/
theorem State.dispatchUpdate_refused {i : WIdx} {reason : DenyReason} {ua ca : Access} {tap : Tap} {f : HeldFields} {d : Decode}
    (h : (d = .pass i ua ca tap ∧ ua.permits (reqKind r) = false ∧ reason = .noAccess) ∨
      (d = .held i ua ca tap f ∧ ua.permits (reqKind r) = false ∧ reason = .noAccess) ∨
      (d = .faulted i ∧ reason = .faulted)) :
    s.dispatchUpdate r d = s.refuseUpdate r i reason := by
  rcases h with ⟨rfl, hp, rfl⟩ | ⟨rfl, hp, rfl⟩ | ⟨rfl, rfl⟩
  · rw [State.dispatchUpdate_pass, hp, if_neg Bool.false_ne_true]
  · exact State.dispatchUpdate_held_refused hp i ca tap f s
  · rfl

end

/-- Settles O10: alignment is looked at before the decode, and one byte divides every address. -/
theorem misalignedUpdateTransaction : Obligations.MisalignedUpdateTransaction := by
  refine ⟨?_, ?_⟩
  · intro r s ht ha
    rw [exec_update_misaligned ht ha]
    rfl
  · intro r hone
    rw [hone]
    exact Nat.mod_one _

/-- Settles O11: every decode that refuses leads to the same record, count and answer. -/
theorem refusedUpdateTransaction : Obligations.RefusedUpdateTransaction := by
  intro r i reason ua ca tap f s ht ha hrefused
  rw [exec_update_aligned ht ha rfl, State.dispatchUpdate_refused hrefused]
  rfl

/-- Settles O12: a permitted pass-through access is placed, and a forwarding read by whether its lanes are all staged. -/
theorem placedUpdateAccess : Obligations.PlacedUpdateAccess := by
  refine ⟨?_, ?_⟩
  · intro r i ua ca tap d s ht ha hd hpermitted
    have hpass : s.taking.dispatchUpdate r d = s.taking.passUpdate r d := by
      rcases hpermitted with rfl | ⟨rfl, hp⟩
      · rfl
      · rw [State.dispatchUpdate_pass, if_pos hp]
    rw [exec_update_aligned ht ha hd, hpass]
    rfl
  · intro a size i ua ca tap f staged s ht ha hd hp hstaged
    subst hstaged
    rw [exec_update_aligned (r := .read a size) ht ha hd, State.dispatchUpdate_held_read hp]
    rfl

/-! ### Requests that wait on a handshake (R47, R118; log 8) -/

section
variable {s : State}

theorem State.requestUpdate_of_notReady (h : s.upd.state ≠ .idle ∨ s.pins.urstn = true) (r : BusRequest) :
    s.requestUpdate r = s.presentUpdate r := by
  have hready : ¬ s.updateReady = true := by
    rcases h with hbusy | hline
    · simp [State.updateReady, hbusy]
    · simp [State.updateReady, hline]
  exact if_neg hready

theorem State.requestCycle_of_notReady (h : s.cyc.state ≠ .idle ∨ s.pins.crstn = true) (r : BusRequest) :
    s.requestCycle r = s.presentCycle r := by
  have hready : ¬ s.cycleReady = true := by
    rcases h with hbusy | hline
    · simp [State.cycleReady, hbusy]
    · simp [State.cycleReady, hline]
  exact if_neg hready

theorem exec_updateTransactionTaken_of_notReady (h : s.settled) (hbusy : s.upd.state ≠ .idle ∨ s.pins.urstn = true)
    (r : BusRequest) : exec (.updateTransactionTaken r) s = .next (s.presentUpdate r).judgeAttn := by
  change (if s.pins.resetn then _ else event (State.requestUpdate r) s) = _
  rw [h.1, if_neg Bool.false_ne_true, event_of_settled _ _ h, State.requestUpdate_of_notReady hbusy]

theorem exec_cycleTransactionTaken_of_notReady (h : s.settled) (hbusy : s.cyc.state ≠ .idle ∨ s.pins.crstn = true)
    (r : BusRequest) : exec (.cycleTransactionTaken r) s = .next (s.presentCycle r).judgeAttn := by
  change (if s.pins.resetn then _ else event (State.requestCycle r) s) = _
  rw [h.1, if_neg Bool.false_ne_true, event_of_settled _ _ h, State.requestCycle_of_notReady hbusy]

end

/-- Settles O19: a port that is not ready, or a device under RESETN, only lets the request wait. -/
theorem requestsWaitAtABusyPort : Obligations.RequestsWaitAtABusyPort :=
  ⟨fun r _ h hbusy => exec_updateTransactionTaken_of_notReady h hbusy r,
    fun r _ h hbusy => exec_cycleTransactionTaken_of_notReady h hbusy r, fun _ _ hreset => ⟨if_pos hreset, if_pos hreset⟩⟩

end Sys2Proof.Machine
end

section
/-! SUPPORT. The epoch lines, the period timer and the delivery of an epoch (R64 to R76, R92), RESETN and the other lines under it (R66,
R158), and TIMER_SET (R71, R72). -/

namespace Sys2Proof.Machine

/-! ### Rows of a line under RESETN and otherwise -/

/-- A row of a line is an event of a settled device. -/
theorem rowInReset_of_settled {f g : State → State} {s : State} (h : s.settled) :
    (if s.pins.resetn then .next (g s) else event f s) = .next (f s).judgeAttn := by
  rw [h.1, if_neg Bool.false_ne_true, event_of_settled f s h]

theorem exec_qualifyStart {s : State} (h : s.settled) (line : EpochLine) :
    exec (.qualifyStart line) s = .next (s.lineRises line).judgeAttn :=
  rowInReset_of_settled (g := fun t => t.lineInReset line true) h

theorem exec_pulseDropped {s : State} (h : s.settled) (line : EpochLine) :
    exec (.pulseDropped line) s = .next (s.lineFalls line).judgeAttn :=
  rowInReset_of_settled (g := fun t => t.lineInReset line false) h

theorem exec_pulseAccepted {s : State} (h : s.settled) (line : EpochLine) :
    exec (.pulseAccepted line) s = .next (s.lineQualifies line).judgeAttn :=
  event_of_settled _ _ h

theorem exec_periodEnd {s : State} (h : s.settled) : exec .periodEnd s = .next s.periodEnds.judgeAttn :=
  event_of_settled _ _ h

/-- While RESETN is asserted a service command's row changes nothing (log 19). -/
theorem exec_service_in_reset {s : State} (h : s.pins.resetn = true) (c : Instr) (hc : (requestOf c).isSome = true) :
    exec c s = .next s := by
  cases c with
  | powerOnReset | resetnDeasserted | urstnAsserted | urstnDeasserted | crstnAsserted | crstnDeasserted
  | updateTransactionTaken _ | heldWriteReconsidered | writeHoldExpired | cycleTransactionTaken _ | qualifyStart _
  | pulseDropped _ | pulseAccepted _ | periodEnd | commitStart | grant | memoryAnswer _ | accessTimeout | lateAnswer _
  | fullResetComplete | idleTimerRunOut | linkTransactionStart | requestFrameDecided _ | requestDropped | collect
  | ssnRises _ _ => cases hc
  | _ => exact event_in_reset _ s h

/-- Settles O6: RESETN's edge is judged by its level, and under RESETN a line's row keeps the level while an event does nothing. -/
theorem resetLineAndTheOtherLines : Obligations.ResetLineAndTheOtherLines := by
  refine ⟨fun s h => if_pos h, fun s h => ?_, fun s h => ⟨if_pos h, if_pos h, if_pos h, if_pos h, if_pos h⟩,
    fun s line h => ⟨if_pos h, if_pos h⟩, fun s received bits h => if_pos h, fun s c h => exec_service_in_reset h c,
    fun s c h => ?_, fun s ans frame h => ⟨event_in_reset _ s h, event_in_reset _ s h⟩⟩
  · exact if_neg (Bool.eq_false_iff.1 h)
  · have hevent : ∀ f, event f s = .next s := fun f => event_in_reset f s h
    revert c
    simp only [List.forall_mem_cons]
    exact ⟨if_pos h, hevent _, hevent _, hevent _, hevent _, hevent _, hevent _, hevent _, if_pos h, hevent _, hevent _,
      hevent _, nofun⟩

/-! ### The edges of an epoch line (R65, R66) -/

section
variable {line : EpochLine} {time : Byte} {k : Nat} {s : State}

/-- A line that is high has no rising edge, and one that is low no falling edge (log 4). -/
theorem State.lineRises_of_high (h : s.pins.level line = true) : s.lineRises line = s := if_pos h

theorem State.lineFalls_of_low (h : s.pins.level line = false) : s.lineFalls line = s := if_neg (Bool.eq_false_iff.1 h)

theorem State.lineRises_accepts (h : s.pins.level line = false) (hq : (s.epoch.qualifier line).time = 0) :
    s.lineRises line = ((s.setLevel line true).setQualifier line .high).acceptPulse line := by
  simp only [State.lineRises, h, hq, Bool.false_eq_true, if_false, if_true]

theorem State.lineRises_qualifies (h : s.pins.level line = false) (hq : (s.epoch.qualifier line).time ≠ 0) :
    s.lineRises line = (s.setLevel line true).setQualifier line (.qualifying (s.epoch.qualifier line).time 0) := by
  simp only [State.lineRises, h, hq, Bool.false_eq_true, if_false]

/-- A falling edge that finds no acceptance due accepts nothing. -/
theorem State.lineFalls_of_notDue (h : s.pins.level line = true) (hq : (s.epoch.qualifier line).due = false) :
    s.lineFalls line = (s.setLevel line false).setQualifier line .low := by
  simp only [State.lineFalls, State.acceptDue, h, hq, Bool.false_eq_true, if_false, if_true]

theorem State.lineFalls_of_due (h : s.pins.level line = true) (hq : (s.epoch.qualifier line).due = true) :
    s.lineFalls line = (((s.setQualifier line .high).acceptPulse line).setLevel line false).setQualifier line .low := by
  simp only [State.lineFalls, State.acceptDue, h, hq, if_true]

theorem Qualifier.due_of_qualifying {q : Qualifier} (h : q.state = .qualifying time k) :
    q.due = decide (time.toNat ≤ k) := by
  rw [Qualifier.due, h]

theorem Qualifier.due_of_low_or_high {q : Qualifier} (h : q.state = .high ∨ q.state = .low) : q.due = false := by
  rcases h with h | h <;> rw [Qualifier.due, h]

end

/-- Settles O22: each edge by the level that it finds, and by the qualify time or by whether an acceptance is due. -/
theorem qualifierEdges : Obligations.QualifierEdges := by
  refine ⟨?_, ?_, ?_, ?_, ?_, ?_, ?_⟩
  · intro line s h hlow hzero
    rw [exec_qualifyStart h, State.lineRises_accepts hlow hzero]
  · intro line s h hlow htime
    rw [exec_qualifyStart h, State.lineRises_qualifies hlow htime]
  · intro line time k s h hhigh hq hshort
    have hdue := (Qualifier.due_of_qualifying hq).trans (decide_eq_false (Nat.not_le.2 hshort))
    rw [exec_pulseDropped h, State.lineFalls_of_notDue hhigh hdue]
  · intro line s h hhigh hq
    rw [exec_pulseDropped h, State.lineFalls_of_notDue hhigh (Qualifier.due_of_low_or_high hq)]
  · intro line time k s h hhigh hq hlong
    have hdue := (Qualifier.due_of_qualifying hq).trans (decide_eq_true hlong)
    rw [exec_pulseDropped h, State.lineFalls_of_due hhigh hdue]
  · intro line s h hhigh
    rw [exec_qualifyStart h, State.lineRises_of_high hhigh]
  · intro line s h hlow
    rw [exec_pulseDropped h, State.lineFalls_of_low hlow]

/-! ### Epochs of the lines and of the timer (R65 to R70) -/

/-- Delivery leaves the Epoch Unit as the count of the epoch has left it (R67). -/
theorem State.giveEpoch_epoch (src : EpochSource) (s : State) : (s.giveEpoch src).epoch = s.epoch.bump src :=
  (State.deliver_frame _ _).2.2.2.2.1

theorem State.acceptPulse_of_not_syncA {s : State} (h : s.epoch.mode ≠ .syncA) :
    s.acceptPulse .a = s.giveEpoch .lineA := by
  have hmode : (s.giveEpoch .lineA).epoch.mode = s.epoch.mode := by rw [State.giveEpoch_epoch]; rfl
  simp only [State.acceptPulse, hmode, if_neg h]

/-- In mode SYNC_A the TIMER epoch that follows a pulse of EPOCHA is one after a restart, as at the end of a period (R68, R69). -/
theorem State.acceptPulse_of_syncA {s : State} (h : s.epoch.mode = .syncA) :
    s.acceptPulse .a = (s.giveEpoch .lineA).timerEpoch := by
  have hmode : (s.giveEpoch .lineA).epoch.mode = s.epoch.mode := by rw [State.giveEpoch_epoch]; rfl
  simp only [State.acceptPulse, hmode, if_pos h, State.timerEpoch]

/-- A TIMER epoch in a state whose Epoch Unit has the periods and the TIMER count of another. -/
theorem State.timerEpoch_eq {s : State} {e : EpochUnit} (hactive : s.epoch.active = e.active)
    (hpending : s.epoch.pending = e.pending) (hcount : s.epoch.epochsTimer = e.epochsTimer) :
    s.timerEpoch = State.deliver ⟨.timer, e.epochsTimer + 1⟩ { s with epoch := { s.epoch with
      count := 0, active := e.pending.getD e.active, pending := none, epochsTimer := e.epochsTimer + 1 } } := by
  rw [← hactive, ← hpending, ← hcount]
  rfl

/-- Settles O23: the state of the qualifier decides the row, and the mode what an accepted pulse of EPOCHA gives. -/
theorem acceptedPulse : Obligations.AcceptedPulse := by
  refine ⟨?_, ?_, fun s => rfl, fun s h => State.acceptPulse_of_not_syncA h, ?_⟩
  · intro line time elapsed s u h hq hu
    rw [exec_pulseAccepted h, State.lineQualifies, hq, hu]
  · intro line s h hq
    have hnone : s.lineQualifies line = s := by
      rcases hq with hq | hq <;> rw [State.lineQualifies, hq]
    rw [exec_pulseAccepted h, hnone]
  · intro s t h ht
    have hepoch : t.epoch = s.epoch.bump .lineA := by rw [ht]; exact State.giveEpoch_epoch .lineA s
    have hgiven : s.giveEpoch .lineA = t := ht.symm
    rw [State.acceptPulse_of_syncA h, hgiven]
    exact State.timerEpoch_eq (by rw [hepoch]; rfl) (by rw [hepoch]; rfl) (by rw [hepoch]; rfl)

/-- Time moves the timers of the qualifiers and the count, and leaves the rest of the Epoch Unit. -/
theorem State.elapse_epoch (n : Nat) (s : State) :
    (s.elapse n).epoch = { s.epoch with
      lineA := (s.elapse n).epoch.lineA, lineB := (s.elapse n).epoch.lineB, count := (s.elapse n).epoch.count } := by
  unfold State.elapse
  split <;> rfl

/-- The TIMER epoch at the end of a period (R68). -/
theorem State.elapse_timerEpoch (n : Nat) (s : State) : (s.elapse n).timerEpoch =
    State.deliver ⟨.timer, s.epoch.epochsTimer + 1⟩ { s.elapse n with epoch := { (s.elapse n).epoch with
      count := 0, active := s.epoch.pending.getD s.epoch.active, pending := none,
      epochsTimer := s.epoch.epochsTimer + 1 } } :=
  State.timerEpoch_eq (by rw [State.elapse_epoch]) (by rw [State.elapse_epoch]) (by rw [State.elapse_epoch])

/-- A TIMER epoch counts itself and leaves the flywheel count (R67, R70). -/
theorem State.timerEpoch_epoch (s : State) : s.timerEpoch.epoch = s.epoch.restart.bump .timer := State.giveEpoch_epoch _ _

/-- The flywheel record and count follow the TIMER epoch (R70). -/
theorem State.flywheelEpoch_eq (s : State) : s.flywheelEpoch = { s.timerEpoch with
    epoch := { s.timerEpoch.epoch with flywheel := satInc s.timerEpoch.epoch.flywheel }
    rep := s.timerEpoch.rep.take (.flywheel s.timerEpoch.epoch.epochsTimer) } := by
  unfold State.flywheelEpoch
  generalize s.timerEpoch = t
  rfl

theorem State.elapse_flywheelEpoch (n : Nat) (s : State) : (s.elapse n).flywheelEpoch =
    { (s.elapse n).timerEpoch with
      epoch := { (s.elapse n).timerEpoch.epoch with flywheel := satInc s.epoch.flywheel }
      rep := (s.elapse n).timerEpoch.rep.take (.flywheel (s.epoch.epochsTimer + 1)) } := by
  have hnumber : (s.elapse n).timerEpoch.epoch.epochsTimer = s.epoch.epochsTimer + 1 := by
    rw [State.timerEpoch_epoch, State.elapse_epoch]; rfl
  have hflywheel : (s.elapse n).timerEpoch.epoch.flywheel = s.epoch.flywheel := by
    rw [State.timerEpoch_epoch, State.elapse_epoch]; rfl
  rw [State.flywheelEpoch_eq, hnumber, hflywheel]

/-- Settles O24: the mode decides what the end of a period gives, and time leaves the periods and the counts. -/
theorem periodEnd : Obligations.PeriodEnd := by
  refine ⟨?_, ?_, ?_⟩
  · intro s u h hmode hu
    rw [exec_periodEnd h, State.periodEnds, hmode, hu]
    dsimp only
    rw [State.elapse_timerEpoch]
  · intro s u t h hmode hu ht
    rw [exec_periodEnd h, State.periodEnds, hmode, ht, hu, ← State.elapse_timerEpoch]
    dsimp only
    rw [State.elapse_flywheelEpoch]
  · intro s h hmode
    rw [exec_periodEnd h, State.periodEnds, hmode]

/-! ### The delivery of an epoch (R73 to R76) and the queueing from an IMMEDIATE window (R92) -/

section
variable {stamp : Option Stamp} {st : Stamp} {i : WIdx} {h : HeldFields} {id : Half} {es : List Entry} {b : WaitBatch}
  {ws : List WaitBatch} {s : State}

/-- A window is idle unless some batch of its list is other than CLOSED (R75). -/
theorem Window.idle_eq_false {w : Window} : w.idle = false ↔ w.waiting.any (fun c => c.state != .closed) = true := by
  simp [Window.idle]

theorem Window.closedBatches_isEmpty (w : Window) :
    w.closedBatches.isEmpty = !w.waiting.any (fun c => c.state == .closed) := by
  rw [Bool.eq_iff_iff]
  simp [Window.closedBatches]

/-- From an idle window with a CLOSED batch the oldest is queued, and its entry joins the tail of the commit queue (R75, R80). -/
theorem State.queueFrom_oldest (hw : (s.win i).waiting = b :: ws) (hidle : (s.win i).idle = true) :
    s.queueFrom stamp i = some
      { s.setWin i { s.win i with waiting := { b with state := .queued, stamp := stamp } :: ws } with
        engine := { s.engine with queue := s.engine.queue ++ [(i, b.id)] } } := by
  rw [State.queueFrom, Window.queueOldest_cons stamp _ b ws hw hidle]

theorem State.queueFrom_none (hw : (s.win i).idle = false ∨ (s.win i).waiting = []) : s.queueFrom stamp i = none := by
  rw [State.queueFrom, Window.queueOldest_none stamp _ hw]

/-- A listening window takes the close step, if its close mode has one, and then the queueing (R73). -/
theorem State.deliverTo_listening (hp : (s.win i).place.activeHeld = some h) (hsource : h.source = .epoch st.source) :
    State.deliverTo st s i = (if h.closeMode = .onEpoch then s.epochClose st i else s).epochQueue st i := by
  simp only [State.deliverTo, hp, if_pos hsource]

theorem State.deliverTo_not_listening (hp : (s.win i).place.activeHeld.map (·.source) ≠ some (.epoch st.source)) :
    State.deliverTo st s i = s := by
  unfold State.deliverTo
  split
  · next h hh => exact if_neg fun hsource => hp (by rw [hh, Option.map_some, hsource])
  · rfl

theorem State.epochQueue_queues (hw : (s.win i).waiting = b :: ws) (hidle : (s.win i).idle = true) :
    s.epochQueue st i =
      { s.setWin i { s.win i with waiting := { b with state := .queued, stamp := some st } :: ws } with
        engine := { s.engine with queue := s.engine.queue ++ [(i, b.id)] } } := by
  rw [State.epochQueue, State.queueFrom_oldest hw hidle]

/-- A window that is not idle and has a CLOSED batch is overrun (R76). -/
theorem State.epochQueue_overrun (hidle : (s.win i).idle = false) (hclosed : (s.win i).closedBatches.isEmpty = false) :
    s.epochQueue st i = (s.countOverrun i).record (.epochOverrun i st) := by
  simp only [State.epochQueue, State.queueFrom_none (.inl hidle), hidle, hclosed, Bool.not_false, Bool.and_self, if_true]

/-- Without a CLOSED batch there is nothing to queue and nothing to overrun. -/
theorem State.epochQueue_nothing (hclosed : (s.win i).waiting.any (fun c => c.state == .closed) = false) :
    s.epochQueue st i = s := by
  have hempty : (s.win i).closedBatches.isEmpty = true := by rw [Window.closedBatches_isEmpty, hclosed]; rfl
  have hnone : s.queueFrom (some st) i = none := by
    refine State.queueFrom_none ?_
    cases hw : (s.win i).waiting with
    | nil => exact .inr rfl
    | cons c cs =>
      rw [hw, List.any_cons, Bool.or_eq_false_iff] at hclosed
      rw [Window.idle, hw, List.all_cons, hclosed.1]
      exact .inl rfl
  simp only [State.epochQueue, hnone, hempty, Bool.not_true, Bool.and_false, Bool.false_eq_true, if_false]

theorem State.epochClose_room (ho : (s.win i).openBatch = some (.gathering id es)) (hne : es ≠ [])
    (hroom : (s.win i).waiting.length < 4) : s.epochClose st i = s.setWin i { s.win i with
      openBatch := none, waiting := (s.win i).waiting ++ [⟨id, es, .closed, .epoch, none⟩] } := by
  obtain ⟨e, es, rfl⟩ := List.exists_cons_of_ne_nil hne
  rw [State.epochClose, ho]
  exact if_pos ((Window.hasRoom_iff _).2 hroom)

theorem State.epochClose_full (ho : (s.win i).openBatch = some (.gathering id es)) (hne : es ≠ [])
    (hfull : 4 ≤ (s.win i).waiting.length) : s.epochClose st i = { s with rep := s.rep.take (.closeDeferred i st) } := by
  obtain ⟨e, es, rfl⟩ := List.exists_cons_of_ne_nil hne
  rw [State.epochClose, ho]
  exact if_neg (Bool.eq_false_iff.1 ((Window.hasRoom_eq_false _).2 hfull))

theorem State.queueImmediate_oldest (hp : (s.win i).place.activeHeld.map (·.source) = some .immediate)
    (hw : (s.win i).waiting = b :: ws) (hidle : (s.win i).idle = true) :
    s.queueImmediate i =
      { s.setWin i { s.win i with waiting := { b with state := .queued, stamp := none } :: ws } with
        engine := { s.engine with queue := s.engine.queue ++ [(i, b.id)] } } := by
  obtain ⟨h, hh, hsource⟩ := Option.map_eq_some_iff.1 hp
  simp only [State.queueImmediate, hh, if_pos hsource, State.queueFrom_oldest hw hidle, Option.getD_some]

theorem State.queueImmediate_other (hp : (s.win i).place.activeHeld.map (·.source) ≠ some .immediate) :
    s.queueImmediate i = s := by
  unfold State.queueImmediate
  split
  · next h hh => exact if_neg fun hsource => hp (by rw [hh, Option.map_some, hsource])
  · rfl

theorem State.queueImmediate_nothing (hw : (s.win i).idle = false ∨ (s.win i).waiting = []) : s.queueImmediate i = s := by
  unfold State.queueImmediate
  rw [State.queueFrom_none hw]
  split
  · split <;> rfl
  · rfl

end

/-- Settles O25: whether the window listens, and then what its list holds after the close step. -/
theorem epochDelivery : Obligations.EpochDelivery := by
  refine ⟨fun st s => rfl, fun st i s hp => State.deliverTo_not_listening hp, ?_, ?_, ?_⟩
  · intro st i h b ws s t hp hsource ht hw hall
    have hidle : (t.win i).idle = true := by rw [Window.idle, hw]; exact hall
    rw [State.deliverTo_listening hp hsource, ← ht, State.epochQueue_queues hw hidle]
  · intro st i h s t hp hsource ht hbusy hclosed
    have hsome : (t.win i).closedBatches.isEmpty = false := by rw [Window.closedBatches_isEmpty, hclosed]; rfl
    rw [State.deliverTo_listening hp hsource, ← ht, State.epochQueue_overrun (Window.idle_eq_false.2 hbusy) hsome]
    rfl
  · intro st i h s t hp hsource ht hnone
    rw [State.deliverTo_listening hp hsource, ← ht, State.epochQueue_nothing hnone]

/-- Settles O26: the close step by the open batch and the room in the list, and the queueing by the window's source and its list. -/
theorem closeStepAndImmediateQueueing : Obligations.CloseStepAndImmediateQueueing := by
  refine ⟨?_, ?_, fun st i id es s ho hne hroom => State.epochClose_room ho hne hroom,
    fun st i id es s ho hne hfull => State.epochClose_full ho hne hfull, ?_, ?_, ?_⟩
  · intro st i s ho
    rw [State.epochClose, ho]
  · intro st i id es s ho hes
    rw [State.epochClose, ho, hes]
  · intro st i id cause s ho
    rw [State.epochClose, ho]
    rfl
  · intro i b ws s hp hw hall
    exact State.queueImmediate_oldest hp hw (by rw [Window.idle, hw]; exact hall)
  · rintro i s (hp | hw | hw)
    · exact State.queueImmediate_other hp
    · exact State.queueImmediate_nothing (.inr hw)
    · exact State.queueImmediate_nothing (.inl (Window.idle_eq_false.2 hw))

/-! ### TIMER_SET (R71, R72) -/

/-- The row that carries these fields is a TIMER_SET command with them. -/
theorem exec_timerRow (tag : Byte) (mode : Option Byte) (period : Option Half) (qa qb : Option Byte) (s : State) :
    exec (timerRow tag mode period qa qb) s =
      event (State.takeRequest tag 0x40 (timerBytes mode period qa qb) (State.timerSet mode period qa qb)) s := by
  unfold timerRow
  split <;> rfl

theorem presentOk_eq_all {α : Type} (ok : α → Bool) (x : Option α) : presentOk ok x = x.all ok := by
  cases x <;> rfl

/-- The modes have the codes 0 to 2 (R181). -/
theorem TimerMode.ofCode_of_le {m : Byte} (h : m.toNat ≤ 2) :
    TimerMode.ofCode m = some (if m = 0x00 then .off else if m = 0x01 then .free else .syncA) := by
  have htwo : m ≠ 0x00 → m ≠ 0x01 → m = 0x02 := by bv_omega
  unfold TimerMode.ofCode
  split
  · rfl
  · next h0 =>
    split
    · rfl
    · next h1 => rw [if_pos (htwo h0 h1)]

theorem TimerMode.ofCode_isSome (m : Byte) : (TimerMode.ofCode m).isSome = decide (m.toNat ≤ 2) := by
  by_cases h : m.toNat ≤ 2
  · rw [TimerMode.ofCode_of_le h, decide_eq_true h]; rfl
  · have h0 : m ≠ 0x00 := by bv_omega
    have h1 : m ≠ 0x01 := by bv_omega
    have h2 : m ≠ 0x02 := by bv_omega
    rw [TimerMode.ofCode, if_neg h0, if_neg h1, if_neg h2, decide_eq_false h]; rfl

theorem timerArgsOk_eq (mode : Option Byte) (period : Option Half) (qa qb : Option Byte) :
    timerArgsOk mode period qa qb =
      (mode.all (fun m => decide (m.toNat ≤ 2)) && period.all (fun p => decide (2 ≤ p.toNat)) &&
        qa.all (fun q => decide (q.toNat ≤ 15)) && qb.all (fun q => decide (q.toNat ≤ 15))) := by
  simp only [timerArgsOk, presentOk_eq_all, TimerMode.ofCode_isSome]

/-- The Epoch Unit after a TIMER_SET whose fields are in range, field by field (R66, R71). -/
theorem EpochUnit.writeTimer_writeQualify (mode : Option Byte) (period : Option Half) (qa qb : Option Byte) (e : EpochUnit) :
    mode.all (fun m => decide (m.toNat ≤ 2)) = true →
    (e.writeTimer (mode.bind TimerMode.ofCode) period).writeQualify qa qb = { e with
      lineA := { e.lineA with time := qa.getD e.lineA.time }
      lineB := { e.lineB with time := qb.getD e.lineB.time }
      mode := match mode with
        | some m => if m = 0x00 then .off else if m = 0x01 then .free else .syncA
        | none => e.mode
      active := match mode, period with
        | some _, some p => p
        | some _, none => e.pending.getD e.active
        | none, some p => if e.mode = .off then p else e.active
        | none, none => e.active
      pending := match mode, period with
        | some _, _ => none
        | none, some p => if e.mode = .off then none else some p
        | none, none => e.pending
      count := if mode.isSome then 0 else e.count } := by
  intro h
  cases mode with
  | some m =>
    rw [Option.bind_some, TimerMode.ofCode_of_le (of_decide_eq_true h)]
    cases period <;> rfl
  | none =>
    cases period with
    | none => rfl
    | some p =>
      by_cases hoff : e.mode = .off
      · simp [EpochUnit.writeTimer, EpochUnit.writePeriod, EpochUnit.writeQualify, hoff]
      · simp [EpochUnit.writeTimer, EpochUnit.writePeriod, EpochUnit.writeQualify, hoff]

/-- Settles O47: the checks are those of the statement, and what is written is the statement's Epoch Unit. -/
theorem timerSet : Obligations.TimerSet := by
  refine ⟨?_, ?_⟩
  · intro tag mode period qa qb e s hs hok he
    have hmode : mode.all (fun m => decide (m.toNat ≤ 2)) = true := by
      simp only [Bool.and_eq_true] at hok
      obtain ⟨⟨⟨hmode, -⟩, -⟩, -⟩ := hok
      exact hmode
    have hwritten : (s.epoch.writeTimer (mode.bind TimerMode.ofCode) period).writeQualify qa qb = e :=
      (EpochUnit.writeTimer_writeQualify mode period qa qb s.epoch hmode).trans he.symm
    rw [exec_timerRow]
    refine event_takeRequest_answered (t := { s with epoch := e }) hs rfl ?_
    change State.timerSet _ _ _ _ _ = State.reply .ok (timerPayload e) _
    rw [State.timerSet, timerArgsOk_eq, if_pos hok, ← hwritten]
    rfl
  · intro tag mode period qa qb s hs hbad
    rw [exec_timerRow]
    refine event_takeRequest_only_answered hs ?_
    rw [State.timerSet, timerArgsOk_eq, hbad, if_neg Bool.false_ne_true, State.refuse]

end Sys2Proof.Machine
end

section
/-! SUPPORT. The laws of the settings and of the lines over one step (R64, R65, R130, R142, R158). The two laws speak of a few fields
only, `State.settings`. Most operations leave these as they are (`KeepsSettings`); time, epochs, the reset lines, the two commands that
write settings and the link transactions change some of them and keep the laws (`KeepsRanges`). -/

namespace Sys2Proof.Machine

/-! ### The fields that the laws speak of -/

/-- The fields that the laws of the settings and of the lines speak of. -/
structure Settings where
  pins : Pins
  epoch : EpochUnit
  timeout : Byte
  streak : Nat
  watermark : Byte
  idleTime : Byte
  linkOpen : Bool

/-- Those fields of a state. -/
def State.settings (s : State) : Settings where
  pins := s.pins
  epoch := s.epoch
  timeout := s.arb.timeout
  streak := s.arb.streak
  watermark := s.rep.watermark
  idleTime := s.rep.idleTime
  linkOpen := s.svc.link.isSome

/-- An operation that leaves those fields of every state. -/
abbrev KeepsSettings (f : State → State) : Prop := ∀ s : State, (f s).settings = s.settings

theorem KeepsSettings.after {f : State → State} (hf : KeepsSettings f) {s t : State} (h : t.settings = s.settings) :
    (f t).settings = s.settings :=
  (hf t).trans h

theorem KeepsSettings.foldl {α : Type} {f : State → α → State} (h : ∀ a, KeepsSettings (f · a)) (l : List α) :
    KeepsSettings (l.foldl f) := by
  intro s
  induction l generalizing s with
  | nil => rfl
  | cons a l ih => exact (ih _).trans (h a s)

/-! ### Records, answers and batches -/

theorem State.record_settings (b : RecordBody) : KeepsSettings (State.record b) := by
  intro s
  simp [State.settings, ReportUnit.take_frame]

theorem State.mapWin_settings (i : WIdx) (f : Window → Window) : KeepsSettings (State.mapWin i f) := fun _ => rfl

theorem State.answerUpdate_settings (a : Answer) : KeepsSettings (State.answerUpdate a) := fun _ => rfl

theorem State.answerCycle_settings (a : Answer) : KeepsSettings (State.answerCycle a) := fun _ => rfl

theorem State.judgeAttn_settings : KeepsSettings State.judgeAttn := fun _ => rfl

theorem State.reply_settings (r : Result) (q : List Byte) : KeepsSettings (State.reply r q) := by
  intro s
  unfold State.reply
  split <;> rfl

theorem State.refuse_settings (r : Result) : KeepsSettings (State.refuse r) := State.reply_settings r []

theorem State.faultHeldOf_settings (i : WIdx) : KeepsSettings (State.faultHeldOf i) := by
  intro s
  simp [State.settings, State.faultHeldOf_frame]

theorem State.faultHeld_settings : KeepsSettings State.faultHeld := by
  intro s
  simp [State.settings, State.faultHeld_frame]

theorem State.deny_settings (port : Port) (r : BusRequest) (i : WIdx) (reason : DenyReason) :
    KeepsSettings (State.deny port r i reason) :=
  fun s => (State.mapWin_settings i _).after (State.record_settings _ s)

theorem State.spoil_settings (i : WIdx) (id : Half) (cause : SpoilCause) : KeepsSettings (State.spoil i id cause) :=
  fun _ => (State.mapWin_settings i _).after ((State.record_settings _).after rfl)

theorem State.discardOpen_settings (i : WIdx) (cause : DiscardCause) : KeepsSettings (State.discardOpen i cause) := by
  intro s
  unfold State.discardOpen
  split
  · exact (State.record_settings _).after rfl
  · rfl

theorem State.discardClosed_settings (i : WIdx) (cause : DiscardCause) : KeepsSettings (State.discardClosed i cause) :=
  fun _ => (KeepsSettings.foldl (fun _ => State.record_settings _) _).after rfl

theorem State.discardQueued_settings (i : WIdx) (cause : DiscardCause) : KeepsSettings (State.discardQueued i cause) := by
  intro s
  unfold State.discardQueued
  split
  · exact (State.record_settings _).after rfl
  · rfl

theorem State.discardAll_settings (scope : ResetScope) : KeepsSettings (State.discardAll scope) := by
  intro s
  rw [State.discardAll_eq]
  exact State.record_settings (.resetDiscard scope s.discarded) s

theorem State.queueImmediate_settings (i : WIdx) : KeepsSettings (State.queueImmediate i) := by
  intro s
  simp [State.settings, State.queueImmediate_frame]

theorem State.closeBatch_settings (i : WIdx) (id : Half) (es : List Entry) (cause : CloseCause) :
    KeepsSettings (State.closeBatch i id es cause) :=
  fun _ => (State.queueImmediate_settings i).after rfl

theorem State.ensureOpen_settings (i : WIdx) : KeepsSettings (State.ensureOpen i) := by
  intro s
  simp [State.settings, State.ensureOpen_frame]

/-! ### The two ports -/

theorem State.acceptWrite_settings (x : StagedWrite) (es : List Entry) : KeepsSettings (State.acceptWrite x es) := by
  intro s
  have hclosed : (if x.closing then
        (s.mapWin x.window fun w => { w with openBatch := some (.gathering (s.openId x.window) es) }).closeBatch
          x.window (s.openId x.window) es .closingWrite
      else s.mapWin x.window fun w => { w with openBatch := some (.gathering (s.openId x.window) es) }).settings =
      s.settings := by
    split
    · exact (State.closeBatch_settings _ _ _ _).after rfl
    · rfl
  unfold State.acceptWrite
  dsimp only
  split
  · exact (State.answerUpdate_settings _).after hclosed
  · exact (State.record_settings _).after ((State.answerUpdate_settings _).after hclosed)

theorem State.stageWrite_settings (x : StagedWrite) (timer : Option HoldTimer) :
    KeepsSettings (State.stageWrite x timer) := by
  intro s
  have hopen := State.ensureOpen_settings x.window s
  unfold State.stageWrite
  dsimp only
  split
  · exact (State.acceptWrite_settings x _).after hopen
  · exact hopen
  · exact hopen
  · exact (State.answerUpdate_settings _).after ((State.spoil_settings _ _ _).after hopen)
  · exact hopen

theorem State.expireHold_settings (x : StagedWrite) (f : WaitsFor) : KeepsSettings (State.expireHold x f) := by
  intro s
  have hopen := State.ensureOpen_settings x.window s
  unfold State.expireHold
  dsimp only
  split
  · exact (State.answerUpdate_settings _).after ((State.spoil_settings _ _ _).after hopen)
  · exact hopen

theorem State.reconsider_settings : KeepsSettings State.reconsider := by
  intro s
  unfold State.reconsider
  split
  · exact State.stageWrite_settings _ _ s
  · rfl

theorem State.settleWrite_settings : KeepsSettings State.settleWrite := by
  intro s
  unfold State.settleWrite
  split
  · exact State.reconsider_settings s
  · rfl

theorem State.refuseUpdate_settings (r : BusRequest) (i : WIdx) (reason : DenyReason) :
    KeepsSettings (State.refuseUpdate r i reason) :=
  fun s => (State.answerUpdate_settings .fault).after (State.deny_settings _ _ _ _ s)

theorem State.forwardRead_settings (r : BusRequest) (d : Decode) (i : WIdx) : KeepsSettings (State.forwardRead r d i) := by
  intro s
  unfold State.forwardRead
  dsimp only
  split <;> rfl

theorem State.dispatchUpdate_settings (r : BusRequest) (d : Decode) : KeepsSettings (State.dispatchUpdate r d) := by
  intro s
  unfold State.dispatchUpdate
  split
  · rfl
  · exact State.refuseUpdate_settings r _ _ s
  · split
    · rfl
    · rfl
    · exact State.refuseUpdate_settings _ _ _ s
    · exact State.refuseUpdate_settings _ _ _ s
  · split
    · exact State.forwardRead_settings _ _ _ s
    · exact State.forwardRead_settings _ _ _ s
    · exact State.stageWrite_settings _ _ s
    · exact State.refuseUpdate_settings _ _ _ s
    · exact State.refuseUpdate_settings _ _ _ s

theorem State.takeUpdate_settings (r : BusRequest) : KeepsSettings (State.takeUpdate r) := by
  intro s
  unfold State.takeUpdate
  dsimp only
  split
  · exact (State.dispatchUpdate_settings r _).after rfl
  · exact (State.answerUpdate_settings _).after ((State.record_settings _).after rfl)

theorem State.takeUpdates_settings (l : List BusRequest) : KeepsSettings (State.takeUpdates l) := by
  intro s
  induction l generalizing s with
  | nil => rfl
  | cons r l ih =>
    unfold State.takeUpdates
    split
    · exact (ih _).trans ((State.takeUpdate_settings r).after rfl)
    · rfl

theorem State.requestUpdate_settings (r : BusRequest) : KeepsSettings (State.requestUpdate r) := by
  intro s
  unfold State.requestUpdate
  split
  · exact State.takeUpdate_settings r s
  · rfl

theorem State.refuseCycle_settings (r : BusRequest) (i : WIdx) (reason : DenyReason) :
    KeepsSettings (State.refuseCycle r i reason) :=
  fun s => (State.answerCycle_settings .fault).after (State.deny_settings _ _ _ _ s)

theorem State.readHeldWindow_settings (r : BusRequest) (d : Decode) (i : WIdx) :
    KeepsSettings (State.readHeldWindow r d i) := by
  intro s
  unfold State.readHeldWindow
  split <;> rfl

theorem State.dispatchCycle_settings (r : BusRequest) (d : Decode) : KeepsSettings (State.dispatchCycle r d) := by
  intro s
  unfold State.dispatchCycle
  split
  · rfl
  · exact State.refuseCycle_settings r _ _ s
  · split
    · rfl
    · rfl
    · exact State.refuseCycle_settings _ _ _ s
    · exact State.refuseCycle_settings _ _ _ s
  · split
    · exact State.refuseCycle_settings _ _ _ s
    · exact State.refuseCycle_settings _ _ _ s
    · exact State.readHeldWindow_settings _ _ _ s
    · exact State.readHeldWindow_settings _ _ _ s

theorem State.takeCycle_settings (r : BusRequest) : KeepsSettings (State.takeCycle r) := by
  intro s
  unfold State.takeCycle
  dsimp only
  split
  · exact (State.dispatchCycle_settings r _).after rfl
  · exact (State.answerCycle_settings _).after ((State.record_settings _).after rfl)

theorem State.takeCycles_settings (l : List BusRequest) : KeepsSettings (State.takeCycles l) := by
  intro s
  induction l generalizing s with
  | nil => rfl
  | cons r l ih =>
    unfold State.takeCycles
    split
    · exact (ih _).trans ((State.takeCycle_settings r).after rfl)
    · rfl

theorem State.requestCycle_settings (r : BusRequest) : KeepsSettings (State.requestCycle r) := by
  intro s
  unfold State.requestCycle
  split
  · exact State.takeCycle_settings r s
  · rfl

/-! ### The Commit Engine and the end of an access -/

theorem State.holdCycleRead_settings (i : WIdx) : KeepsSettings (State.holdCycleRead i) := by
  intro s
  unfold State.holdCycleRead
  (repeat' split) <;> rfl

theorem State.releaseCycleRead_settings (i : WIdx) : KeepsSettings (State.releaseCycleRead i) := by
  intro s
  unfold State.releaseCycleRead
  (repeat' split) <;> rfl

theorem State.faultCycleRead_settings (i : WIdx) : KeepsSettings (State.faultCycleRead i) := by
  intro s
  unfold State.faultCycleRead
  (repeat' split) <;> rfl

theorem State.startCommit_settings : KeepsSettings State.startCommit := by
  intro s
  unfold State.startCommit
  (repeat' split)
  · exact (State.holdCycleRead_settings _).after rfl
  · rfl
  · rfl
  · rfl
  · rfl

theorem State.completeCommit_settings (h : BatchInHand) (b : WaitBatch) : KeepsSettings (State.completeCommit h b) := by
  intro s
  unfold State.completeCommit
  refine (State.queueImmediate_settings _).after ((State.releaseCycleRead_settings _).after ?_)
  dsimp only
  split
  · exact (State.record_settings _).after rfl
  · rfl

theorem State.writeNewDone_settings (h : BatchInHand) (b : WaitBatch) (c : Cursor) :
    KeepsSettings (State.writeNewDone h b c) := by
  intro s
  unfold State.writeNewDone
  dsimp only
  split
  · rfl
  · exact (State.completeCommit_settings _ b).after rfl

theorem State.completeRollback_settings : KeepsSettings State.completeRollback := by
  intro s
  unfold State.completeRollback
  split
  · rfl
  · split
    · exact (State.queueImmediate_settings _).after ((State.releaseCycleRead_settings _).after
        ((State.record_settings _).after rfl))
    · exact (State.reply_settings _ _).after ((State.releaseCycleRead_settings _).after (State.record_settings _ s))

theorem State.continueRollback_settings : KeepsSettings State.continueRollback := by
  intro s
  unfold State.continueRollback
  split
  · rfl
  · exact State.completeRollback_settings s

theorem State.failCommit_settings (h : BatchInHand) (e : Entry) (c : Cursor) : KeepsSettings (State.failCommit h e c) :=
  fun _ => State.continueRollback_settings.after rfl

theorem State.rollbackWriteDone_settings : KeepsSettings State.rollbackWriteDone :=
  fun _ => State.continueRollback_settings.after rfl

theorem State.halt_settings (i : WIdx) : KeepsSettings (State.halt i) := fun _ => rfl

theorem State.failRollback_settings : KeepsSettings State.failRollback := by
  intro s
  unfold State.failRollback
  split
  · rfl
  · split
    · exact (State.faultCycleRead_settings _).after ((State.record_settings _).after ((State.halt_settings _).after
        ((State.record_settings _).after rfl)))
    · exact (State.reply_settings _ _).after ((State.faultCycleRead_settings _).after ((State.record_settings _).after
        ((State.halt_settings _).after (State.discardQueued_settings _ _ s))))

theorem State.endCommitAccess_settings (o : AccessEnd) : KeepsSettings (State.endCommitAccess o) := by
  intro s
  unfold State.endCommitAccess
  split
  · (repeat' split)
    · rfl
    · exact State.writeNewDone_settings _ _ _ s
    · exact State.failCommit_settings _ _ _ s
    · rfl
    · rfl
    · rfl
  · split
    · exact State.rollbackWriteDone_settings s
    · exact State.failRollback_settings s
  · rfl
  · rfl

theorem State.recordFailure_settings (who : ErrorRequester) (r : BusRequest) (how : MemFailure) :
    KeepsSettings (State.recordFailure who r how) :=
  State.record_settings _

theorem State.endUpdateAccess_settings (o : AccessEnd) : KeepsSettings (State.endUpdateAccess o) := by
  intro s
  unfold State.endUpdateAccess
  split
  · split
    · exact (State.answerUpdate_settings _).after (State.recordFailure_settings _ _ _ s)
    · split
      · rfl
      · dsimp only
        split
        · exact (State.record_settings _).after rfl
        · rfl
  · cases o with
    | failed how => exact State.recordFailure_settings _ _ _ s
    | done data => rfl
  · rfl
  · rfl
  · rfl

theorem State.endCycleAccess_settings (o : AccessEnd) : KeepsSettings (State.endCycleAccess o) := by
  intro s
  unfold State.endCycleAccess
  split
  · split
    · exact (State.answerCycle_settings _).after (State.recordFailure_settings _ _ _ s)
    · split
      · split <;> rfl
      · dsimp only
        split
        · exact (State.record_settings _).after rfl
        · rfl
  · cases o with
    | failed how => exact State.recordFailure_settings _ _ _ s
    | done data => rfl
  · rfl
  · rfl
  · rfl

theorem State.endProbe_settings (o : AccessEnd) : KeepsSettings (State.endProbe o) := by
  intro s
  unfold State.endProbe
  split
  · cases o with
    | done data => exact (State.reply_settings _ _).after rfl
    | failed how => exact (State.reply_settings _ _).after ((State.record_settings _).after rfl)
  · rfl

theorem State.endAccess_settings (o : AccessEnd) : KeepsSettings (State.endAccess o) := by
  intro s
  unfold State.endAccess
  split
  · rfl
  · dsimp only
    split
    · exact (State.endCycleAccess_settings o).after rfl
    · exact (State.endCommitAccess_settings o).after rfl
    · exact (State.endUpdateAccess_settings o).after rfl
    · exact (State.endProbe_settings o).after rfl

/-! ### The delivery of an epoch -/

theorem State.queueFrom_settings {stamp : Option Stamp} {i : WIdx} {s t : State} (h : s.queueFrom stamp i = some t) :
    t.settings = s.settings := by
  unfold State.queueFrom at h
  split at h
  · cases h; rfl
  · cases h

theorem State.epochClose_settings (st : Stamp) (i : WIdx) : KeepsSettings (State.epochClose st i) := by
  intro s
  unfold State.epochClose
  split
  · rfl
  · rfl
  · split
    · rfl
    · exact State.record_settings _ s
  · rfl

theorem State.epochQueue_settings (st : Stamp) (i : WIdx) : KeepsSettings (State.epochQueue st i) := by
  intro s
  unfold State.epochQueue
  split
  · next hq => exact State.queueFrom_settings hq
  · split
    · exact (State.record_settings _).after rfl
    · rfl

theorem State.deliverTo_settings (st : Stamp) (i : WIdx) : KeepsSettings (State.deliverTo st · i) := by
  intro s
  dsimp only
  unfold State.deliverTo
  split
  · split
    · refine (State.epochQueue_settings st i).after ?_
      split
      · exact State.epochClose_settings st i s
      · rfl
    · rfl
  · rfl

theorem State.deliver_settings (st : Stamp) : KeepsSettings (State.deliver st) :=
  KeepsSettings.foldl (State.deliverTo_settings st) allWindows

/-! ### Service commands that write no setting -/

theorem State.windowSet_settings (a : WindowSetArgs) : KeepsSettings (State.windowSet a) := by
  intro s
  unfold State.windowSet
  (repeat' split)
  · exact State.refuse_settings _ s
  · exact State.refuse_settings _ s
  · exact State.reply_settings _ _ s
  · exact State.refuse_settings _ s
  · exact (State.reply_settings _ _).after rfl
  · exact State.refuse_settings _ s

theorem State.windowDrop_settings (index : Byte) : KeepsSettings (State.windowDrop index) := by
  intro s
  unfold State.windowDrop
  (repeat' split)
  · exact State.refuse_settings _ s
  · exact State.refuse_settings _ s
  · exact State.refuse_settings _ s
  · exact (State.reply_settings _ _).after ((State.mapWin_settings _ _).after ((State.discardClosed_settings _ _).after
      ((State.discardOpen_settings _ _).after (State.faultHeldOf_settings _ s))))
  · exact State.refuse_settings _ s

theorem State.windowRead_settings (index : Byte) : KeepsSettings (State.windowRead index) := by
  intro s
  unfold State.windowRead
  (repeat' split)
  · exact State.refuse_settings _ s
  · exact State.refuse_settings _ s
  · exact State.reply_settings _ _ s
  · exact State.reply_settings _ _ s

theorem State.resume_settings (i : WIdx) : KeepsSettings (State.resume i) :=
  fun _ => State.continueRollback_settings.after ((State.queueImmediate_settings i).after
    ((State.holdCycleRead_settings i).after rfl))

theorem State.abandon_settings (i : WIdx) : KeepsSettings (State.abandon i) :=
  fun s => (State.reply_settings _ _).after ((State.discardClosed_settings i .cleared).after
    ((State.discardOpen_settings i .cleared).after (State.faultHeldOf_settings i s)))

theorem State.clearRetry_settings (index : Byte) : KeepsSettings (State.clearRetry index) := by
  intro s
  unfold State.clearRetry
  (repeat' split)
  · exact State.refuse_settings _ s
  · exact State.refuse_settings _ s
  · exact State.refuse_settings _ s
  · exact State.resume_settings _ s

theorem State.clearAbandon_settings (index : Byte) : KeepsSettings (State.clearAbandon index) := by
  intro s
  unfold State.clearAbandon
  (repeat' split)
  · exact State.refuse_settings _ s
  · exact State.refuse_settings _ s
  · exact State.refuse_settings _ s
  · exact State.abandon_settings _ s

theorem State.undoRead_settings (start : Byte) : KeepsSettings (State.undoRead start) := by
  intro s
  unfold State.undoRead
  (repeat' split)
  · exact State.reply_settings _ _ s
  · exact State.refuse_settings _ s
  · exact State.refuse_settings _ s

theorem State.onActiveHeld_settings (index : Byte) {act : WIdx → State → State} (h : ∀ i, KeepsSettings (act i)) :
    KeepsSettings (State.onActiveHeld index act) := by
  intro s
  unfold State.onActiveHeld
  (repeat' split)
  · exact State.refuse_settings _ s
  · exact State.refuse_settings _ s
  · exact State.refuse_settings _ s
  · exact State.refuse_settings _ s
  · exact h _ s
  · exact State.refuse_settings _ s

theorem State.closeOpen_settings (i : WIdx) : KeepsSettings (State.closeOpen i) := by
  intro s
  unfold State.closeOpen
  (repeat' split)
  · exact State.refuse_settings _ s
  · exact State.refuse_settings _ s
  · exact (State.reply_settings _ _).after rfl
  · exact (State.reply_settings _ _).after (State.closeBatch_settings _ _ _ _ s)
  · exact State.refuse_settings _ s

theorem State.discardTargetOpen_settings (i : WIdx) : KeepsSettings (State.discardTargetOpen i) := by
  intro s
  unfold State.discardTargetOpen
  split
  · exact State.refuse_settings _ s
  · exact (State.reply_settings _ _).after ((State.discardOpen_settings _ _).after (State.faultHeldOf_settings _ s))

theorem State.discardTargetWaiting_settings (i : WIdx) : KeepsSettings (State.discardTargetWaiting i) := by
  intro s
  unfold State.discardTargetWaiting
  split
  · exact State.refuse_settings _ s
  · exact (State.reply_settings _ _).after (State.discardClosed_settings _ _ s)

theorem State.discardTargetQueued_settings (i : WIdx) : KeepsSettings (State.discardTargetQueued i) := by
  intro s
  unfold State.discardTargetQueued
  (repeat' split)
  · exact State.refuse_settings _ s
  · exact State.refuse_settings _ s
  · exact State.refuse_settings _ s
  · exact State.refuse_settings _ s
  · exact (State.queueImmediate_settings _).after ((State.reply_settings _ _).after (State.discardQueued_settings _ _ s))

theorem State.batchList_settings (index : Byte) : KeepsSettings (State.batchList index) := by
  intro s
  unfold State.batchList
  (repeat' split)
  · exact State.refuse_settings _ s
  · exact State.refuse_settings _ s
  · exact State.reply_settings _ _ s
  · exact State.refuse_settings _ s

theorem State.ident_settings : KeepsSettings State.ident := State.reply_settings .ok identPayload

theorem State.replyGate_settings : KeepsSettings State.replyGate := fun s => State.reply_settings _ _ s

theorem State.setGate_settings (g : Gate) : KeepsSettings (State.setGate g) := fun _ => State.replyGate_settings.after rfl

theorem State.limitsRead_settings : KeepsSettings State.limitsRead := fun s => State.reply_settings _ _ s

theorem State.countersRead_settings : KeepsSettings State.countersRead := fun s => State.reply_settings _ _ s

/-- Taking records, and reporting a loss, leave the watermark and the idle time (R150). -/
theorem ReportUnit.removeOldest_frame (r : ReportUnit) :
    r.removeOldest.watermark = r.watermark ∧ r.removeOldest.idleTime = r.idleTime := by
  unfold ReportUnit.removeOldest
  split <;> exact ⟨rfl, rfl⟩

theorem ReportUnit.reportLoss_frame (removed : Bool) (r : ReportUnit) :
    (r.reportLoss removed).watermark = r.watermark ∧ (r.reportLoss removed).idleTime = r.idleTime := by
  unfold ReportUnit.reportLoss
  split
  · obtain ⟨-, hwatermark, hidle, -⟩ := ReportUnit.take_frame { r with lost := 0 } (.reportsLost r.lost)
    exact ⟨hwatermark, hidle⟩
  · exact ⟨rfl, rfl⟩

theorem State.reportsTake_settings : KeepsSettings State.reportsTake := by
  intro s
  refine (State.reply_settings _ _).after ?_
  simp [State.settings, ReportUnit.reportLoss_frame, ReportUnit.removeOldest_frame]

theorem State.memoryProbe_settings (view : ProbeView) (addr : Word) : KeepsSettings (State.memoryProbe view addr) := by
  intro s
  have hstaged : ∀ p, (s.probeStaged p).settings = s.settings := by
    intro p
    unfold State.probeStaged
    split
    · exact State.reply_settings _ _ s
    · rfl
  unfold State.memoryProbe
  (repeat' split)
  · exact State.refuse_settings _ s
  · exact hstaged _
  · exact State.refuse_settings _ s

theorem State.partResetBatches_settings : KeepsSettings State.partResetBatches :=
  fun s => (State.reply_settings _ _).after ((State.discardAll_settings _).after (State.faultHeld_settings s))

/-! ### Changes that keep the two laws -/

/-- A change of the device that keeps the law of the settings and that of the lines, each on its own. -/
structure State.KeepsRanges (s t : State) : Prop where
  ranges : s.rangeLaw → t.rangeLaw
  lines : s.lineLaw → t.lineLaw

theorem State.KeepsRanges.refl (s : State) : s.KeepsRanges s := ⟨id, id⟩

theorem State.KeepsRanges.trans {s t u : State} (h : s.KeepsRanges t) (k : t.KeepsRanges u) : s.KeepsRanges u :=
  ⟨k.ranges ∘ h.ranges, k.lines ∘ h.lines⟩

theorem State.KeepsRanges.of_settings {s t : State} (h : t.settings = s.settings) : s.KeepsRanges t := by
  obtain ⟨hpins, hepoch, htimeout, hstreak, hwatermark, hidle, hlink⟩ := Settings.mk.inj h
  constructor
  · intro hs
    rw [State.rangeLaw, hwatermark, hidle, htimeout, hstreak, hepoch]
    exact hs
  · intro hs
    rw [State.lineLaw, ← Option.isSome_iff_ne_none, hlink, Option.isSome_iff_ne_none, hpins, hepoch]
    exact hs

/-- A change by an operation that leaves the settings, after one that keeps the laws. -/
theorem State.KeepsRanges.then {f : State → State} {s t : State} (h : s.KeepsRanges t) (hf : KeepsSettings f) :
    s.KeepsRanges (f t) :=
  h.trans (.of_settings (hf t))

/-- An operation that keeps the two laws from every state. -/
abbrev RangeLawful (f : State → State) : Prop := ∀ s : State, s.KeepsRanges (f s)

theorem KeepsSettings.rangeLawful {f : State → State} (hf : KeepsSettings f) : RangeLawful f := fun s => .of_settings (hf s)

theorem State.KeepsRanges.andThen {f : State → State} {s t : State} (h : s.KeepsRanges t) (hf : RangeLawful f) :
    s.KeepsRanges (f t) :=
  h.trans (hf t)

/-- A change of the Epoch Unit that keeps its settings in range and each qualifier LOW or not LOW. -/
structure EpochUnit.Keeps (e f : EpochUnit) : Prop where
  timeA : e.lineA.time.toNat ≤ 15 → f.lineA.time.toNat ≤ 15
  timeB : e.lineB.time.toNat ≤ 15 → f.lineB.time.toNat ≤ 15
  periods : 2 ≤ e.active.toNat → e.pending.all (fun p => decide (2 ≤ p.toNat)) = true →
    2 ≤ f.active.toNat ∧ f.pending.all (fun p => decide (2 ≤ p.toNat)) = true
  lowA : f.lineA.state = .low ↔ e.lineA.state = .low
  lowB : f.lineB.state = .low ↔ e.lineB.state = .low

theorem State.KeepsRanges.setEpoch {s : State} {e : EpochUnit} (h : s.epoch.Keeps e) :
    s.KeepsRanges { s with epoch := e } where
  ranges := by
    rintro ⟨hwatermark, hidle, htimeout, hstreak, hA, hB, hactive, hpending⟩
    exact ⟨hwatermark, hidle, htimeout, hstreak, h.timeA hA, h.timeB hB, h.periods hactive hpending⟩
  lines := by
    rintro ⟨hA, hB, hlink⟩
    exact ⟨h.lowA.trans hA, h.lowB.trans hB, hlink⟩

/-! ### Time and epochs -/

/-- A timer that counts leaves a qualifier's time, and LOW or not LOW (R65). -/
theorem Qualifier.elapse_frame (n : Nat) (q : Qualifier) :
    (q.elapse n).time = q.time ∧ ((q.elapse n).state = .low ↔ q.state = .low) := by
  unfold Qualifier.elapse
  split
  · next h => simp [h]
  · exact ⟨rfl, Iff.rfl⟩

theorem EpochUnit.elapse_keeps (n : Nat) (e : EpochUnit) : e.Keeps (e.elapse n) := by
  obtain ⟨htimeA, hlowA⟩ := e.lineA.elapse_frame n
  obtain ⟨htimeB, hlowB⟩ := e.lineB.elapse_frame n
  exact ⟨fun h => htimeA.symm ▸ h, fun h => htimeB.symm ▸ h, And.intro, hlowA, hlowB⟩

/-- Counting an epoch leaves the settings and the qualifiers (R67). -/
theorem EpochUnit.bump_keeps (src : EpochSource) (e : EpochUnit) : e.Keeps (e.bump src) := by
  cases src <;> exact ⟨id, id, And.intro, Iff.rfl, Iff.rfl⟩

/-- A pending period is in range, so it is when it becomes active (R68). -/
theorem EpochUnit.restart_keeps (e : EpochUnit) : e.Keeps e.restart where
  timeA := id
  timeB := id
  periods := by
    intro hactive hpending
    refine ⟨?_, rfl⟩
    unfold EpochUnit.restart
    cases hp : e.pending with
    | none => exact hactive
    | some p => rw [hp] at hpending; exact of_decide_eq_true hpending
  lowA := Iff.rfl
  lowB := Iff.rfl

theorem State.elapse_rangeLawful (n : Nat) : RangeLawful (State.elapse n) := by
  intro s
  unfold State.elapse
  split
  · exact .refl s
  · exact (State.KeepsRanges.setEpoch (s.epoch.elapse_keeps n)).trans (.of_settings rfl)

theorem State.giveEpoch_rangeLawful (src : EpochSource) : RangeLawful (State.giveEpoch src) := by
  intro s
  unfold State.giveEpoch
  dsimp only
  exact .then (.setEpoch (s.epoch.bump_keeps src)) (State.deliver_settings _)

theorem State.timerEpoch_rangeLawful : RangeLawful State.timerEpoch := by
  intro s
  unfold State.timerEpoch
  exact (State.KeepsRanges.setEpoch s.epoch.restart_keeps).andThen (State.giveEpoch_rangeLawful .timer)

theorem State.flywheelEpoch_rangeLawful : RangeLawful State.flywheelEpoch := by
  intro s
  have htimer := State.timerEpoch_rangeLawful s
  unfold State.flywheelEpoch
  generalize s.timerEpoch = t at htimer
  exact (htimer.then (State.record_settings _)).trans (.setEpoch ⟨id, id, And.intro, Iff.rfl, Iff.rfl⟩)

theorem State.acceptPulse_rangeLawful (line : EpochLine) : RangeLawful (State.acceptPulse line) := by
  intro s
  cases line with
  | b => exact State.giveEpoch_rangeLawful .lineB s
  | a =>
    have hline := State.giveEpoch_rangeLawful .lineA s
    by_cases hmode : s.epoch.mode = .syncA
    · rw [State.acceptPulse_of_syncA hmode]
      exact hline.andThen State.timerEpoch_rangeLawful
    · rw [State.acceptPulse_of_not_syncA hmode]
      exact hline

theorem State.periodEnds_rangeLawful : RangeLawful State.periodEnds := by
  intro s
  unfold State.periodEnds
  split
  · exact .refl s
  · exact (State.elapse_rangeLawful _ s).andThen State.timerEpoch_rangeLawful
  · exact (State.elapse_rangeLawful _ s).andThen State.flywheelEpoch_rangeLawful

theorem State.idleRunsOut_rangeLawful : RangeLawful State.idleRunsOut := by
  intro s
  unfold State.idleRunsOut
  split
  · exact .refl s
  · exact (State.elapse_rangeLawful _ s).trans (.of_settings rfl)

theorem State.holdRunsOut_rangeLawful : RangeLawful State.holdRunsOut := by
  intro s
  unfold State.holdRunsOut
  split
  · exact (State.elapse_rangeLawful _ s).then (State.expireHold_settings _ _)
  · exact .refl s

theorem State.timeOut_rangeLawful : RangeLawful State.timeOut := by
  intro s
  unfold State.timeOut
  split
  · exact (State.elapse_rangeLawful _ s).then (State.endAccess_settings _)
  · exact .refl s

/-! ### The epoch lines -/

/-- A line and its qualifier change together, the qualifier LOW exactly when the line is low (R65, R66). -/
theorem State.KeepsRanges.setLine (s : State) (line : EpochLine) {high : Bool} {q : QualifierState}
    (h : q = .low ↔ high = false) : s.KeepsRanges ((s.setLevel line high).setQualifier line q) := by
  cases line with
  | a => exact ⟨id, fun ⟨_, hB, hlink⟩ => ⟨h, hB, hlink⟩⟩
  | b => exact ⟨id, fun ⟨hA, _, hlink⟩ => ⟨hA, h, hlink⟩⟩

/-- A qualifier that is not LOW becomes HIGH (R65). -/
theorem State.KeepsRanges.setHigh {s : State} {line : EpochLine} (h : (s.epoch.qualifier line).state ≠ .low) :
    s.KeepsRanges (s.setQualifier line .high) := by
  cases line with
  | a => exact ⟨id, fun ⟨hA, hB, hlink⟩ => ⟨⟨nofun, fun hlow => absurd (hA.2 hlow) h⟩, hB, hlink⟩⟩
  | b => exact ⟨id, fun ⟨hA, hB, hlink⟩ => ⟨hA, ⟨nofun, fun hlow => absurd (hB.2 hlow) h⟩, hlink⟩⟩

theorem QualifierState.ofLevel_eq_low (high : Bool) : QualifierState.ofLevel high = .low ↔ high = false := by
  cases high <;> simp [QualifierState.ofLevel]

theorem State.lineInReset_rangeLawful (line : EpochLine) (high : Bool) : RangeLawful (State.lineInReset line high) :=
  fun s => .setLine s line (QualifierState.ofLevel_eq_low high)

theorem State.lineRises_rangeLawful (line : EpochLine) : RangeLawful (State.lineRises line) := by
  intro s
  unfold State.lineRises
  dsimp only
  split
  · exact .refl s
  · split
    · exact (State.KeepsRanges.setLine s line (high := true) (by simp)).andThen (State.acceptPulse_rangeLawful line)
    · exact .setLine s line (high := true) (by simp)

theorem State.acceptDue_rangeLawful (line : EpochLine) : RangeLawful (State.acceptDue line) := by
  intro s
  unfold State.acceptDue
  split
  · next hdue =>
    obtain ⟨time, k, hq, -⟩ := (Qualifier.due_iff _).1 hdue
    exact (State.KeepsRanges.setHigh (by rw [hq]; nofun)).andThen (State.acceptPulse_rangeLawful line)
  · exact .refl s

theorem State.lineFalls_rangeLawful (line : EpochLine) : RangeLawful (State.lineFalls line) := by
  intro s
  unfold State.lineFalls
  split
  · exact (State.acceptDue_rangeLawful line s).trans (.setLine _ line (by simp))
  · exact .refl s

/-- Time leaves a qualifier LOW or not LOW. -/
theorem State.elapse_low (n : Nat) (line : EpochLine) (s : State) :
    ((s.elapse n).epoch.qualifier line).state = .low ↔ (s.epoch.qualifier line).state = .low := by
  unfold State.elapse
  split
  · rfl
  · cases line with
    | a => exact (s.epoch.lineA.elapse_frame n).2
    | b => exact (s.epoch.lineB.elapse_frame n).2

theorem State.lineQualifies_rangeLawful (line : EpochLine) : RangeLawful (State.lineQualifies line) := by
  intro s
  unfold State.lineQualifies
  split
  · next hq =>
    have hlow : ∀ n, ((s.elapse n).epoch.qualifier line).state ≠ .low := fun n =>
      mt (s.elapse_low n line).1 (by rw [hq]; nofun)
    exact ((State.elapse_rangeLawful _ s).trans (.setHigh (hlow _))).andThen (State.acceptPulse_rangeLawful line)
  · exact .refl s

/-! ### The grant, the resets and the commands that write settings -/

/-- The streak stops at its limit (R133). -/
theorem Arbiter.choose_streak {a : Arbiter} {who : Requester} {r : BusRequest} {n : Nat}
    (h : a.choose = some (who, r, n)) : n ≤ 8 := by
  unfold Arbiter.choose at h
  split at h
  · cases h; omega
  · split at h
    · next hlimit =>
      cases h
      exact hlimit
    · cases h; omega
  · cases h; omega
  · cases h

theorem State.seeGrant_settings (who : Requester) : KeepsSettings (State.seeGrant who) := by
  intro s
  unfold State.seeGrant
  (repeat' split) <;> rfl

theorem State.grantNext_rangeLawful : RangeLawful State.grantNext := by
  intro s
  unfold State.grantNext
  split
  · next who r streak _ hchoose =>
    refine State.KeepsRanges.then ⟨?_, ?_⟩ (State.seeGrant_settings who)
    · rintro ⟨hwatermark, hidle, htimeout, -, hepoch⟩
      refine ⟨hwatermark, hidle, ?_, Arbiter.choose_streak hchoose, hepoch⟩
      cases who <;> exact htimeout
    · exact id
  · exact .refl s

/-- The settings at their power-on values, and each qualifier's state from its line (R64, R66, R130, R142). -/
theorem State.rangeLaw_of_reset {s : State} {pins : Pins} (hepoch : s.epoch = EpochUnit.reset pins)
    (htimeout : s.arb.timeout = Config.accessTimeout) (hstreak : s.arb.streak = 0)
    (hwatermark : s.rep.watermark = Config.watermark) (hidle : s.rep.idleTime = Config.idleTime) : s.rangeLaw := by
  rw [State.rangeLaw, hepoch, htimeout, hstreak, hwatermark, hidle]
  exact ⟨by decide, by decide, by decide, by decide, of_decide_eq_true rfl, of_decide_eq_true rfl, of_decide_eq_true rfl, rfl⟩

theorem State.lineLaw_of_reset {s : State} (hepoch : s.epoch = EpochUnit.reset s.pins)
    (hlink : s.svc.link ≠ none → s.pins.ssn = true) : s.lineLaw := by
  rw [State.lineLaw, hepoch]
  exact ⟨QualifierState.ofLevel_eq_low _, QualifierState.ofLevel_eq_low _, hlink⟩

theorem State.completeReset_rangeLawful (waited : Bool) : RangeLawful (State.completeReset waited) := by
  intro s
  unfold State.completeReset
  dsimp only
  refine .then ⟨fun _ => ?_, fun hs => ?_⟩ (State.reply_settings _ _)
  · exact State.rangeLaw_of_reset rfl rfl rfl rfl rfl
  · refine State.lineLaw_of_reset rfl ?_
    have hlink := (State.KeepsRanges.of_settings (State.faultHeld_settings s)).lines hs
    exact hlink.2.2

theorem State.leaveReset_rangeLawful : RangeLawful State.leaveReset := fun _ =>
  ⟨id, fun ⟨_, _, hlink⟩ => ⟨QualifierState.ofLevel_eq_low _, QualifierState.ofLevel_eq_low _, hlink⟩⟩

theorem State.updateReset_rangeLawful : RangeLawful State.updateReset := by
  intro s
  unfold State.updateReset
  split
  · exact .refl s
  · rw [State.abandonUpdate_eq]
    exact State.KeepsRanges.then ⟨id, id⟩ (State.discardAll_settings .updateReset)

theorem State.cycleReset_rangeLawful : RangeLawful State.cycleReset := by
  intro s
  unfold State.cycleReset
  split
  · exact .refl s
  · rw [State.abandonCycle_eq]
    exact ⟨id, id⟩

theorem State.partResetFull_rangeLawful : RangeLawful State.partResetFull := by
  intro s
  have hpending : s.KeepsRanges { s with engine := { s.engine with fullReset := true } } := .of_settings rfl
  unfold State.partResetFull
  dsimp only
  split
  · exact hpending.andThen (State.completeReset_rangeLawful false)
  · exact hpending

/-- A field that is present and checked, or the old value, is in range. -/
theorem getD_of_all {α : Type} {p : α → Prop} [DecidablePred p] {x : Option α} {old : α}
    (hx : x.all (fun a => decide (p a)) = true) (hold : p old) : p (x.getD old) := by
  cases x with
  | none => exact hold
  | some a => exact of_decide_eq_true hx

/-- A TIMER_SET whose period is in range keeps the periods in range (R71). -/
theorem EpochUnit.writeTimer_keeps (mode : Option TimerMode) {period : Option Half} (e : EpochUnit)
    (h : period.all (fun p => decide (2 ≤ p.toNat)) = true) : e.Keeps (e.writeTimer mode period) := by
  cases mode with
  | some m =>
    refine ⟨id, id, fun hactive hpending => ⟨?_, rfl⟩, Iff.rfl, Iff.rfl⟩
    exact getD_of_all (p := fun p : Half => 2 ≤ p.toNat) h (e.restart_keeps.periods hactive hpending).1
  | none =>
    cases period with
    | none => exact ⟨id, id, And.intro, Iff.rfl, Iff.rfl⟩
    | some p =>
      have hp : 2 ≤ p.toNat := of_decide_eq_true h
      simp only [EpochUnit.writeTimer, EpochUnit.writePeriod]
      split
      · exact ⟨id, id, fun _ _ => ⟨hp, rfl⟩, Iff.rfl, Iff.rfl⟩
      · exact ⟨id, id, fun hactive _ => ⟨hactive, h⟩, Iff.rfl, Iff.rfl⟩

theorem EpochUnit.writeQualify_keeps {qa qb : Option Byte} (e : EpochUnit)
    (ha : qa.all (fun q => decide (q.toNat ≤ 15)) = true) (hb : qb.all (fun q => decide (q.toNat ≤ 15)) = true) :
    e.Keeps (e.writeQualify qa qb) :=
  ⟨getD_of_all (p := fun q : Byte => q.toNat ≤ 15) ha, getD_of_all (p := fun q : Byte => q.toNat ≤ 15) hb, And.intro,
    Iff.rfl, Iff.rfl⟩

theorem State.timerSet_rangeLawful (mode : Option Byte) (period : Option Half) (qa qb : Option Byte) :
    RangeLawful (State.timerSet mode period qa qb) := by
  intro s
  unfold State.timerSet
  split
  · next hok =>
    rw [timerArgsOk_eq] at hok
    simp only [Bool.and_eq_true] at hok
    obtain ⟨⟨⟨-, hperiod⟩, ha⟩, hb⟩ := hok
    have hwritten := (State.KeepsRanges.setEpoch (s.epoch.writeTimer_keeps (mode.bind TimerMode.ofCode) hperiod)).trans
      (.setEpoch (EpochUnit.writeQualify_keeps _ ha hb))
    exact hwritten.then (State.reply_settings .ok _)
  · exact .of_settings (State.refuse_settings _ s)

/-- The limits of a LIMITS_SET that is not refused (R172). -/
theorem limitsOk_eq (timeout watermark idle : Option Byte) : limitsOk timeout watermark idle =
    (timeout.all (fun t => decide (1 ≤ t.toNat)) &&
      watermark.all (fun w => decide (1 ≤ w.toNat ∧ w.toNat ≤ 64)) && idle.all (fun i => decide (1 ≤ i.toNat))) := by
  simp only [limitsOk, presentOk_eq_all, Bool.decide_and]

theorem ReportUnit.writeIdle_frame (idle : Option Byte) (r : ReportUnit) :
    (r.writeIdle idle).idleTime = idle.getD r.idleTime ∧ (r.writeIdle idle).watermark = r.watermark := by
  cases idle <;> exact ⟨rfl, rfl⟩

theorem State.limitsSet_rangeLawful (hold : Option Half) (timeout watermark idle : Option Byte) :
    RangeLawful (State.limitsSet hold timeout watermark idle) := by
  intro s
  unfold State.limitsSet
  split
  · next hok =>
    rw [limitsOk_eq] at hok
    simp only [Bool.and_eq_true] at hok
    obtain ⟨⟨ht, hw⟩, hi⟩ := hok
    refine State.KeepsRanges.then ⟨?_, id⟩ State.limitsRead_settings
    rintro ⟨hwatermark, hidle, htimeout, hstreak, hepoch⟩
    obtain ⟨hidle', hwatermark'⟩ :=
      ReportUnit.writeIdle_frame idle { s.rep with watermark := watermark.getD s.rep.watermark }
    refine ⟨?_, ?_, getD_of_all (p := fun t : Byte => 1 ≤ t.toNat) ht htimeout, hstreak, hepoch⟩
    · change 1 ≤ (ReportUnit.writeIdle _ _).watermark.toNat ∧ (ReportUnit.writeIdle _ _).watermark.toNat ≤ 64
      rw [hwatermark']
      exact getD_of_all (p := fun w : Byte => 1 ≤ w.toNat ∧ w.toNat ≤ 64) hw hwatermark
    · change 1 ≤ (ReportUnit.writeIdle _ _).idleTime.toNat
      rw [hidle']
      exact getD_of_all (p := fun i : Byte => 1 ≤ i.toNat) hi hidle
  · exact .of_settings (State.refuse_settings _ s)

/-! ### The service link -/

theorem onEmpty_rangeLawful {op : State → State} (h : RangeLawful op) (p : List Byte) : RangeLawful (onEmpty op p) := by
  unfold onEmpty
  split
  · exact h
  · exact (State.refuse_settings _).rangeLawful

theorem onByte_rangeLawful {op : Byte → State → State} (h : ∀ b, RangeLawful (op b)) (p : List Byte) :
    RangeLawful (onByte op p) := by
  unfold onByte
  split
  · exact h _
  · exact (State.refuse_settings _).rangeLawful

theorem onDescriptor_rangeLawful (p : List Byte) : RangeLawful (onDescriptor p) := by
  unfold onDescriptor
  split
  · exact (State.windowSet_settings _).rangeLawful
  · exact (State.refuse_settings _).rangeLawful

theorem onClear_rangeLawful (p : List Byte) : RangeLawful (onClear p) := by
  unfold onClear
  (repeat' split)
  · exact (State.clearRetry_settings _).rangeLawful
  · exact (State.clearAbandon_settings _).rangeLawful
  · exact (State.refuse_settings _).rangeLawful
  · exact (State.refuse_settings _).rangeLawful

theorem onDiscard_rangeLawful (p : List Byte) : RangeLawful (onDiscard p) := by
  unfold onDiscard
  (repeat' split)
  · exact (State.onActiveHeld_settings _ State.discardTargetOpen_settings).rangeLawful
  · exact (State.onActiveHeld_settings _ State.discardTargetWaiting_settings).rangeLawful
  · exact (State.onActiveHeld_settings _ State.discardTargetQueued_settings).rangeLawful
  · exact (State.refuse_settings _).rangeLawful
  · exact (State.refuse_settings _).rangeLawful

theorem onGate_rangeLawful (p : List Byte) : RangeLawful (onGate p) := by
  unfold onGate
  (repeat' split)
  · exact State.replyGate_settings.rangeLawful
  · exact (State.setGate_settings _).rangeLawful
  · exact (State.setGate_settings _).rangeLawful
  · exact (State.refuse_settings _).rangeLawful
  · exact (State.refuse_settings _).rangeLawful

theorem onTimer_rangeLawful (p : List Byte) : RangeLawful (onTimer p) := by
  unfold onTimer
  split
  · exact State.timerSet_rangeLawful _ _ _ _
  · exact (State.refuse_settings _).rangeLawful

theorem onLimits_rangeLawful (p : List Byte) : RangeLawful (onLimits p) := by
  unfold onLimits
  (repeat' split)
  · exact State.limitsSet_rangeLawful _ _ _ _
  · exact (State.refuse_settings _).rangeLawful
  · exact (State.refuse_settings _).rangeLawful

theorem onProbe_rangeLawful (p : List Byte) : RangeLawful (onProbe p) := by
  unfold onProbe
  (repeat' split)
  · exact (State.memoryProbe_settings _ _).rangeLawful
  · exact (State.memoryProbe_settings _ _).rangeLawful
  · exact (State.refuse_settings _).rangeLawful
  · exact (State.refuse_settings _).rangeLawful

theorem onPartReset_rangeLawful (p : List Byte) : RangeLawful (onPartReset p) := by
  unfold onPartReset
  (repeat' split)
  · exact State.partResetBatches_settings.rangeLawful
  · exact State.partResetFull_rangeLawful
  · exact (State.refuse_settings _).rangeLawful
  · exact (State.refuse_settings _).rangeLawful

/-- Every row of the command table keeps the two laws, whatever its payload. -/
theorem commandTable_rangeLawful : ∀ row ∈ commandTable, ∀ p, RangeLawful (row.2 p) := by
  simp only [commandTable, List.forall_mem_cons]
  exact ⟨onEmpty_rangeLawful State.ident_settings.rangeLawful, onDescriptor_rangeLawful,
    onByte_rangeLawful fun i => (State.windowDrop_settings i).rangeLawful,
    onByte_rangeLawful fun i => (State.windowRead_settings i).rangeLawful, onClear_rangeLawful,
    onByte_rangeLawful fun i => (State.onActiveHeld_settings i State.closeOpen_settings).rangeLawful, onDiscard_rangeLawful,
    onByte_rangeLawful fun i => (State.batchList_settings i).rangeLawful,
    onByte_rangeLawful fun n => (State.undoRead_settings n).rangeLawful, onGate_rangeLawful, onTimer_rangeLawful,
    onLimits_rangeLawful, onEmpty_rangeLawful State.limitsRead_settings.rangeLawful,
    onEmpty_rangeLawful State.countersRead_settings.rangeLawful, onEmpty_rangeLawful State.reportsTake_settings.rangeLawful,
    onProbe_rangeLawful, onPartReset_rangeLawful, nofun⟩

theorem dispatch_rangeLawful (code : Byte) (p : List Byte) : RangeLawful (dispatch code p) := by
  unfold dispatch
  split
  · next row hrow => exact commandTable_rangeLawful row (List.mem_of_find?_eq_some hrow) p
  · exact (State.refuse_settings _).rangeLawful

/-- Deciding a frame leaves a link transaction in progress (R159). -/
theorem State.endFrame_settings : KeepsSettings State.endFrame := by
  intro s
  unfold State.endFrame
  split
  · next h =>
    split
    · simp only [State.settings, h, Option.isSome_some]
    · rfl
  · rfl

theorem State.takeRequest_rangeLawful {op : State → State} (hop : RangeLawful op) (tag code : Byte) (p : List Byte) :
    RangeLawful (State.takeRequest tag code p op) := by
  intro s
  have hframe : s.KeepsRanges s.endFrame := .of_settings (State.endFrame_settings s)
  unfold State.takeRequest
  dsimp only
  split
  · exact .andThen (hframe.trans (.of_settings rfl)) hop
  · exact hframe.trans (.of_settings rfl)

theorem State.badFrame_settings (tag : Byte) : KeepsSettings (State.badFrame tag) := by
  intro s
  unfold State.badFrame
  dsimp only
  split <;> exact State.endFrame_settings s

theorem State.decideFrame_rangeLawful (f : RequestFrame) : RangeLawful (State.decideFrame f) := by
  intro s
  unfold State.decideFrame
  split
  · exact State.takeRequest_rangeLawful (dispatch_rangeLawful _ _) _ _ _ s
  · exact .of_settings (State.badFrame_settings _ s)

theorem State.requestFrame_rangeLawful (frame : List Byte) : RangeLawful (State.requestFrame frame) := by
  intro s
  unfold State.requestFrame
  split
  · split
    · exact State.decideFrame_rangeLawful _ s
    · exact .of_settings (State.endFrame_settings s)
  · exact .refl s

theorem State.dropOpenRequest_settings : KeepsSettings State.dropOpenRequest := by
  intro s
  unfold State.dropOpenRequest
  split
  · split
    · rfl
    · exact State.endFrame_settings s
  · rfl

/-- A transaction whose frame is still to be decided is in progress. -/
theorem State.undecided_eq_some {s : State} {t : LinkTxn} (h : s.undecided = some t) : s.svc.link = some t := by
  unfold State.undecided at h
  split at h
  · next hlink =>
    split at h
    · rw [hlink, h]
    · cases h
  · cases h

theorem State.beginCollect_settings : KeepsSettings State.beginCollect := by
  intro s
  unfold State.beginCollect
  split
  · next h => simp only [State.settings, State.undecided_eq_some h, Option.isSome_some]
  · rfl

theorem State.decideAtRise_rangeLawful (received : List Byte) : RangeLawful (State.decideAtRise received) := by
  intro s
  unfold State.decideAtRise
  (repeat' split)
  · exact .of_settings (State.beginCollect_settings s)
  · exact State.decideFrame_rangeLawful _ s
  · exact .of_settings (State.badFrame_settings _ s)
  · exact .of_settings (State.endFrame_settings s)
  · exact .refl s
  · exact .refl s

theorem State.endCollect_settings (received : List Byte) : KeepsSettings (State.endCollect received) := by
  intro s
  unfold State.endCollect
  (repeat' split) <;> rfl

/-- With SSN high no transaction is in progress (R158). -/
theorem State.ssnHigh_rangeLawful : RangeLawful State.ssnHigh :=
  fun _ => ⟨id, fun ⟨hA, hB, _⟩ => ⟨hA, hB, fun h => absurd rfl h⟩⟩

theorem State.ssnRise_rangeLawful (received : List Byte) : RangeLawful (State.ssnRise received) := by
  intro s
  unfold State.ssnRise
  split
  · exact ((State.decideAtRise_rangeLawful received s).then (State.endCollect_settings received)).trans
      (State.ssnHigh_rangeLawful _)
  · exact .refl s

theorem State.ssnFalls_rangeLawful : RangeLawful State.ssnFalls := by
  intro s
  unfold State.ssnFalls
  split
  · exact .refl s
  · exact ⟨id, fun ⟨hA, hB, _⟩ => ⟨hA, hB, fun _ => rfl⟩⟩

/-! ### Every step -/

theorem State.settleWork_rangeLawful : RangeLawful State.settleWork := by
  intro s
  have hwrite : s.KeepsRanges s.settleWrite := .of_settings (State.settleWrite_settings s)
  rw [State.settleWork_eq]
  split
  · exact hwrite.andThen (State.completeReset_rangeLawful true)
  · exact hwrite

theorem State.settle_rangeLawful : RangeLawful State.settle := fun s =>
  ((State.settleWork_rangeLawful s).then (State.takeUpdates_settings _)).then (State.takeCycles_settings _)

/-- An event keeps the two laws when its own effect does. -/
theorem event_keepsRanges {f : State → State} (hf : RangeLawful f) {s t : State} (h : event f s = .next t) :
    s.KeepsRanges t := by
  rw [event_next] at h
  cases h
  split
  · exact .refl s
  · exact ((State.settle_rangeLawful s).trans (hf _)).then State.judgeAttn_settings

/-- A service command's row keeps the two laws when its act does. -/
theorem request_keepsRanges {op : State → State} (hop : RangeLawful op) {tag code : Byte} {p : List Byte} {s t : State}
    (h : event (State.takeRequest tag code p op) s = .next t) : s.KeepsRanges t :=
  event_keepsRanges (State.takeRequest_rangeLawful hop tag code p) h

/-- A row that answers `f s` outright keeps the two laws when `f` does. -/
theorem State.KeepsRanges.of_next {f : State → State} (hf : RangeLawful f) {s t : State}
    (h : Host.Outcome.next (φ := Fault) (ρ := Refusal) (f s) = .next t) : s.KeepsRanges t := by
  cases h
  exact hf s

/-- A row that is one thing while RESETN is asserted and an event otherwise keeps the two laws when both do. -/
theorem rowInReset_keepsRanges {f g : State → State} (hg : RangeLawful g) (hf : RangeLawful f) {s t : State}
    (h : (if s.pins.resetn then .next (g s) else event f s) = .next t) : s.KeepsRanges t := by
  split at h
  · exact .of_next hg h
  · exact event_keepsRanges hf h

/-- A level that is kept of a reset line, or of SSN falling, keeps the two laws. -/
theorem State.setPins_rangeLawful (p : Pins → Pins)
    (h : ∀ q, (p q).epochA = q.epochA ∧ (p q).epochB = q.epochB ∧ (q.ssn = true → (p q).ssn = true)) :
    RangeLawful fun s => { s with pins := p s.pins } := by
  intro s
  obtain ⟨hA, hB, hssn⟩ := h s.pins
  refine ⟨id, ?_⟩
  rintro ⟨hlowA, hlowB, hlink⟩
  exact ⟨hA ▸ hlowA, hB ▸ hlowB, hssn ∘ hlink⟩

/-- Whatever command it carries out, the device keeps each of the two laws. -/
theorem exec_keepsRanges (c : Instr) {s t : State} (h : exec c s = .next t) : s.KeepsRanges t := by
  cases c with
  | powerOnReset =>
    cases h
    exact ⟨fun _ => State.rangeLaw_of_reset rfl rfl rfl rfl rfl, fun _ => State.lineLaw_of_reset rfl fun h => absurd rfl h⟩
  | resetnDeasserted =>
    simp only [exec, execResetnDeasserted] at h
    split at h
    · exact .of_next (fun s => (State.leaveReset_rangeLawful s).then State.judgeAttn_settings) h
    · exact .of_next .refl h
  | urstnAsserted =>
    exact rowInReset_keepsRanges (State.setPins_rangeLawful (fun p => { p with urstn := true }) fun _ => ⟨rfl, rfl, id⟩)
      State.updateReset_rangeLawful h
  | urstnDeasserted =>
    exact rowInReset_keepsRanges (State.setPins_rangeLawful (fun p => { p with urstn := false }) fun _ => ⟨rfl, rfl, id⟩)
      (State.setPins_rangeLawful (fun p => { p with urstn := false }) fun _ => ⟨rfl, rfl, id⟩) h
  | crstnAsserted =>
    exact rowInReset_keepsRanges (State.setPins_rangeLawful (fun p => { p with crstn := true }) fun _ => ⟨rfl, rfl, id⟩)
      State.cycleReset_rangeLawful h
  | crstnDeasserted =>
    exact rowInReset_keepsRanges (State.setPins_rangeLawful (fun p => { p with crstn := false }) fun _ => ⟨rfl, rfl, id⟩)
      (State.setPins_rangeLawful (fun p => { p with crstn := false }) fun _ => ⟨rfl, rfl, id⟩) h
  | updateTransactionTaken r =>
    exact rowInReset_keepsRanges (g := State.presentUpdate r) (fun _ => ⟨id, id⟩)
      (State.requestUpdate_settings r).rangeLawful h
  | heldWriteReconsidered =>
    simp only [exec, execHeldWriteReconsidered] at h
    split at h
    · exact .of_next .refl h
    · exact .of_next (fun s => .of_settings (State.judgeAttn_settings.after (State.settleWrite_settings s))) h
  | writeHoldExpired => exact event_keepsRanges State.holdRunsOut_rangeLawful h
  | cycleTransactionTaken r =>
    exact rowInReset_keepsRanges (g := State.presentCycle r) (fun _ => ⟨id, id⟩)
      (State.requestCycle_settings r).rangeLawful h
  | qualifyStart line =>
    exact rowInReset_keepsRanges (State.lineInReset_rangeLawful line true) (State.lineRises_rangeLawful line) h
  | pulseDropped line =>
    exact rowInReset_keepsRanges (State.lineInReset_rangeLawful line false) (State.lineFalls_rangeLawful line) h
  | pulseAccepted line => exact event_keepsRanges (State.lineQualifies_rangeLawful line) h
  | periodEnd => exact event_keepsRanges State.periodEnds_rangeLawful h
  | commitStart => exact event_keepsRanges State.startCommit_settings.rangeLawful h
  | grant => exact event_keepsRanges State.grantNext_rangeLawful h
  | memoryAnswer ans => exact event_keepsRanges (State.endAccess_settings _).rangeLawful h
  | accessTimeout => exact event_keepsRanges State.timeOut_rangeLawful h
  | lateAnswer ans => exact .of_next .refl h
  | fullResetComplete =>
    simp only [exec, execFullResetComplete] at h
    split at h
    · exact .of_next .refl h
    · exact .of_next (fun s => (State.settleWork_rangeLawful s).then State.judgeAttn_settings) h
  | idleTimerRunOut => exact event_keepsRanges State.idleRunsOut_rangeLawful h
  | linkTransactionStart =>
    exact rowInReset_keepsRanges
      (State.setPins_rangeLawful (fun p => { p with ssn := true }) fun _ => ⟨rfl, rfl, fun _ => rfl⟩)
      State.ssnFalls_rangeLawful h
  | requestFrameDecided frame => exact event_keepsRanges (State.requestFrame_rangeLawful frame) h
  | requestDropped => exact event_keepsRanges State.dropOpenRequest_settings.rangeLawful h
  | collect => exact event_keepsRanges State.beginCollect_settings.rangeLawful h
  | ssnRises received bits =>
    exact rowInReset_keepsRanges State.ssnHigh_rangeLawful (State.ssnRise_rangeLawful received) h
  | ident tag => exact request_keepsRanges State.ident_settings.rangeLawful h
  | windowSet tag args => exact request_keepsRanges (State.windowSet_settings args).rangeLawful h
  | windowDrop tag index => exact request_keepsRanges (State.windowDrop_settings index).rangeLawful h
  | windowRead tag index => exact request_keepsRanges (State.windowRead_settings index).rangeLawful h
  | windowClearRetry tag index => exact request_keepsRanges (State.clearRetry_settings index).rangeLawful h
  | windowClearAbandon tag index => exact request_keepsRanges (State.clearAbandon_settings index).rangeLawful h
  | batchClose tag index =>
    exact request_keepsRanges (State.onActiveHeld_settings index State.closeOpen_settings).rangeLawful h
  | batchDiscardOpen tag index =>
    exact request_keepsRanges (State.onActiveHeld_settings index State.discardTargetOpen_settings).rangeLawful h
  | batchDiscardWaiting tag index =>
    exact request_keepsRanges (State.onActiveHeld_settings index State.discardTargetWaiting_settings).rangeLawful h
  | batchDiscardQueued tag index =>
    exact request_keepsRanges (State.onActiveHeld_settings index State.discardTargetQueued_settings).rangeLawful h
  | batchList tag index => exact request_keepsRanges (State.batchList_settings index).rangeLawful h
  | undoRead tag start => exact request_keepsRanges (State.undoRead_settings start).rangeLawful h
  | gateHold tag | gateOpen tag => exact request_keepsRanges (State.setGate_settings _).rangeLawful h
  | gateRead tag => exact request_keepsRanges State.replyGate_settings.rangeLawful h
  | timerSetMode _ _ _ _ _ | timerSetPeriod _ _ _ _ | timerSetQualifyA _ _ _ | timerSetQualifyB _ _ | timerSettingsRead _ =>
    exact request_keepsRanges (State.timerSet_rangeLawful _ _ _ _) h
  | limitsSetWriteHoldLimit _ _ _ _ _ | limitsSetMemoryAccessTimeout _ _ _ _ | limitsSetWatermark _ _ _
  | limitsSetIdleTime _ _ => exact request_keepsRanges (State.limitsSet_rangeLawful _ _ _ _) h
  | limitsRead tag => exact request_keepsRanges State.limitsRead_settings.rangeLawful h
  | countersRead tag => exact request_keepsRanges State.countersRead_settings.rangeLawful h
  | reportsTake tag => exact request_keepsRanges State.reportsTake_settings.rangeLawful h
  | memoryProbeMemory tag addr | memoryProbeUpdate tag addr =>
    exact request_keepsRanges (State.memoryProbe_settings _ addr).rangeLawful h
  | partResetBatches tag => exact request_keepsRanges State.partResetBatches_settings.rangeLawful h
  | partResetFull tag => exact request_keepsRanges State.partResetFull_rangeLawful h

theorem State.microsecond_rangeLawful : RangeLawful State.microsecond :=
  fun s => (State.elapse_rangeLawful 1 s).then State.judgeAttn_settings

theorem idleStep_keepsRanges {s t : State} (h : idleStep s = .next t) : s.KeepsRanges t := by
  unfold idleStep at h
  split at h
  · exact .of_next State.microsecond_rangeLawful h
  · split at h
    · exact .of_next (fun s => (State.settle_rangeLawful s).then State.judgeAttn_settings) h
    · split at h
      · exact exec_keepsRanges _ h
      · exact .of_next State.microsecond_rangeLawful h

theorem step_keepsRanges {s t : State} (h : step s = .next t) : s.KeepsRanges t := by
  unfold step at h
  split at h
  · next c rest _ =>
    have hqueue : s.KeepsRanges { s with pending := rest } := .of_settings rfl
    exact hqueue.trans (exec_keepsRanges c h)
  · exact idleStep_keepsRanges h

/-- Settles O57: a step is a chain of operations each of which leaves the fields of the two laws or keeps the laws, and the power-on
values satisfy them. -/
theorem settingsAndLinesLawKept : Obligations.SettingsAndLinesLawKept :=
  ⟨fun _ _ h hstep => (step_keepsRanges hstep).ranges h, fun _ _ h hstep => (step_keepsRanges hstep).lines h,
    State.rangeLaw_of_reset rfl rfl rfl rfl rfl, State.lineLaw_of_reset rfl fun h => absurd rfl h⟩

end Sys2Proof.Machine
end

section
/-! SUPPORT. The Commit Engine (R82 to R91, R100 to R102): a commit start, the steps of a commit, the failure of an access with the
rollback that it begins, and GATE. A commit is followed on a window whose waiting list has the batch in hand at its head. -/

namespace Sys2Proof.Machine

/-! ### The batch at the head of a waiting list -/

theorem Window.queuedBatch_head {w : Window} {b : WaitBatch} {ws : List WaitBatch} (hw : w.waiting = b :: ws)
    (hb : b.state = .queued) : w.queuedBatch = some b := by
  simp [Window.queuedBatch, hw, hb]

theorem Window.batchAtWork_head {w : Window} {b : WaitBatch} {ws : List WaitBatch} (hw : w.waiting = b :: ws)
    (hb : b.state = .committing ∨ b.state = .rollingBack) : w.batchAtWork = some b := by
  rw [Window.batchAtWork, hw, List.find?_cons_of_pos (by simpa using hb)]

/-- Where only the head can be in the old state, restating changes the head alone (R84, R88). -/
theorem Window.restate_head {w : Window} {b : WaitBatch} {ws : List WaitBatch} {old new : BatchState}
    (hw : w.waiting = b :: ws) (hb : b.state = old) (hold : old ≠ .closed)
    (hclosed : ws.all (fun c => c.state == .closed) = true) :
    w.restate old new = { w with waiting := { b with state := new } :: ws } := by
  have htail : ws.map (fun c => if c.state = old then { c with state := new } else c) = ws := by
    refine (List.map_congr_left fun c hc => ?_).trans ws.map_id'
    have hstate : c.state = .closed := eq_of_beq (List.all_eq_true.1 hclosed c hc)
    rw [if_neg (hstate ▸ hold.symm)]
  simp [Window.restate, hw, hb, htail]

theorem State.leaveAtWork_head {s : State} {i : WIdx} {b : WaitBatch} {ws : List WaitBatch}
    (hw : (s.win i).waiting = b :: ws) (hb : b.state = .committing ∨ b.state = .rollingBack) :
    s.leaveAtWork i = s.setWin i { s.win i with waiting := ws } := by
  have herase : (b :: ws).eraseP (fun c => c.state == .committing || c.state == .rollingBack) = ws :=
    List.eraseP_cons_of_pos (by simpa using hb)
  rw [State.leaveAtWork, State.mapWin_eq_setWin, hw, herase]

/-! ### COMMIT_START (R84, R85) -/

theorem exec_commitStart {s : State} (h : s.settled) : exec .commitStart s = .next s.startCommit.judgeAttn :=
  event_of_settled _ _ h

theorem State.startCommit_of_notDue {s : State} (h : s.commitDue = false) : s.startCommit = s := by
  simp [State.startCommit, h]

/-- A due commit start with the head of the queue known and its batch at the head of the waiting list. -/
theorem State.startCommit_of_due {s : State} {i : WIdx} {id : Half} {rest : List (WIdx × Half)} {b : WaitBatch}
    {ws : List WaitBatch} {e : Entry} {es : List Entry} (hdue : s.commitDue = true) (hq : s.engine.queue = (i, id) :: rest)
    (hw : (s.win i).waiting = b :: ws) (hb : b.state = .queued) (hclosed : ws.all (fun c => c.state == .closed) = true)
    (hes : b.entries = e :: es) :
    s.startCommit = State.placeCommit (.read e.addr .four) (State.holdCycleRead i
      { s.setWin i { s.win i with waiting := { b with state := .committing } :: ws } with
        engine := { s.engine with
          state := .committing, queue := rest, inHand := some ⟨i, id, 0⟩, cursor := some ⟨0, .readOld⟩ } }) := by
  simp only [State.startCommit, hdue, hq, Window.queuedBatch_head hw hb, hes, State.mapWin_eq_setWin,
    Window.restate_head hw hb (by decide) hclosed]
  rfl

/-- Settles O27: the four conditions of R84 are `State.commitDue`, and a start that is not due changes nothing. -/
theorem commitStart : Obligations.CommitStart := by
  constructor
  · intro i id rest b ws e es s h hidle hopen hreset hq hw hb hclosed hes
    have hdue : s.commitDue = true := s.commitDue_iff.2 ⟨hidle, hopen, hreset, by simp [hq]⟩
    rw [exec_commitStart h, State.startCommit_of_due hdue hq hw hb hclosed hes]
  · intro s h hnot
    have hdue : s.commitDue = false := by
      rw [Bool.eq_false_iff, ne_eq, s.commitDue_iff]
      rintro ⟨hidle, hopen, hreset, hq⟩
      simp [hidle, hopen, hreset, hq] at hnot
    rw [exec_commitStart h, State.startCommit_of_notDue hdue]

/-! ### The end of a commit access (R86 to R88) -/

/-- An access of the Commit Engine ends with the port FREE and its outcome handed to the engine (R136). -/
theorem State.endAccess_of_ce {s : State} (h : s.arb.port.map (·.owner) = some .ce) (o : AccessEnd) :
    s.endAccess o = s.portFreed.endCommitAccess o := by
  obtain ⟨p, hport, howner⟩ := Option.map_eq_some_iff.1 h
  simp only [State.endAccess, hport, howner]
  rfl

section
variable {h : BatchInHand} {c : Cursor} {b : WaitBatch} {e : Entry} {s : State}

theorem State.endCommitAccess_readOld (hs : s.engine.state = .committing) (hh : s.engine.inHand = some h)
    (hc : s.engine.cursor = some c) (hb : (s.win h.window).batchAtWork = some b) (he : b.entries[c.index]? = some e)
    (hstep : c.step = .readOld) (old : Quad Byte) : s.endCommitAccess (.done old) = s.readOldDone e c old := by
  simp only [State.endCommitAccess, hs, hh, hc, hb, he, hstep]

theorem State.endCommitAccess_writeNew (hs : s.engine.state = .committing) (hh : s.engine.inHand = some h)
    (hc : s.engine.cursor = some c) (hb : (s.win h.window).batchAtWork = some b) (he : b.entries[c.index]? = some e)
    (hstep : c.step = .writeNew) (old : Quad Byte) : s.endCommitAccess (.done old) = s.writeNewDone h b c := by
  simp only [State.endCommitAccess, hs, hh, hc, hb, he, hstep]

theorem State.endCommitAccess_failed (hs : s.engine.state = .committing) (hh : s.engine.inHand = some h)
    (hc : s.engine.cursor = some c) (hb : (s.win h.window).batchAtWork = some b) (he : b.entries[c.index]? = some e)
    (how : MemFailure) : s.endCommitAccess (.failed how) = s.failCommit h e c := by
  simp only [State.endCommitAccess, hs, hh, hc, hb, he]

theorem State.writeNewDone_next {e2 : Entry} (hnext : b.entries[c.index + 1]? = some e2) :
    s.writeNewDone h b c = State.placeCommit (.read e2.addr .four) { s with engine := { s.engine with
      inHand := some { h with written := h.written + 1 }, cursor := some ⟨c.index + 1, .readOld⟩ } } := by
  simp only [State.writeNewDone, hnext]
  rfl

end

/-! ### The end of a commit or of a rollback (R90, R91, R102, R103) -/

theorem Place.reportsDone_iff (p : Place) : p.reportsDone = true ↔ p.desc.map (·.doneReports) = some true := by
  unfold Place.reportsDone
  split <;> simp [*]

/-- The release of a held read reads and changes the Cycle Port Unit and its request alone. -/
theorem State.releaseCycleRead_congr {s t : State} (i : WIdx) (hcyc : t.cyc = s.cyc) (harb : t.arb = s.arb) :
    t.releaseCycleRead i = { t with cyc := (s.releaseCycleRead i).cyc, arb := (s.releaseCycleRead i).arb } := by
  unfold State.releaseCycleRead
  rw [hcyc]
  split
  · split
    · simp [State.placeCycle, hcyc, harb]
    · simp [← hcyc, ← harb]
  · simp [← hcyc, ← harb]

/-- One window, the engine and the Report Unit replaced: what the end of a commit or of a rollback changes, but for the cycle port. -/
def State.replaced (i : WIdx) (w : Window) (e : Engine) (r : ReportUnit) (s : State) : State :=
  { s.setWin i w with engine := e, rep := r }

section
variable (i : WIdx) (w : Window) (e : Engine) (r : ReportUnit) (s : State)

theorem State.replaced_win : (s.replaced i w e r).win i = w := State.setWin_win_same i w s

theorem State.mapWin_replaced (f : Window → Window) : (s.replaced i w e r).mapWin i f = s.replaced i (f w) e r := by
  rw [State.mapWin_eq_setWin, State.replaced_win]
  simp [State.replaced, State.setWin]

theorem State.replaced_replaced (w' : Window) (e' : Engine) (r' : ReportUnit) :
    (s.replaced i w e r).replaced i w' e' r' = s.replaced i w' e' r' := by
  simp [State.replaced, State.setWin]

theorem State.record_replaced (body : RecordBody) : (s.replaced i w e r).record body = s.replaced i w e (r.take body) := rfl

theorem State.releaseCycleRead_quiet (j : WIdx) :
    { (s.replaced i w e r).releaseCycleRead j with engine := ((s.replaced i w e r).releaseCycleRead j).engine.quiet } =
      (s.replaced i w e.quiet r).releaseCycleRead j := by
  rw [State.releaseCycleRead_congr (s := s) (t := s.replaced i w e r) j rfl rfl,
    State.releaseCycleRead_congr (s := s) (t := s.replaced i w e.quiet r) j rfl rfl]
  rfl

end

theorem State.leaveAtWork_replaced {i : WIdx} {b : WaitBatch} {ws : List WaitBatch} {s : State}
    (hw : (s.win i).waiting = b :: ws) (hb : b.state = .committing ∨ b.state = .rollingBack) (e : Engine) :
    { s.leaveAtWork i with engine := e } = s.replaced i { s.win i with waiting := ws } e s.rep := by
  rw [State.leaveAtWork_head hw hb]
  rfl

theorem State.completeCommit_eq {h : BatchInHand} {b : WaitBatch} {ws : List WaitBatch} {s : State}
    (hw : (s.win h.window).waiting = b :: ws) (hb : b.state = .committing) :
    s.completeCommit h b = State.queueImmediate h.window (State.releaseCycleRead h.window
      (s.replaced h.window
        { s.win h.window with
          waiting := ws
          counters := { (s.win h.window).counters with commitsDone := satInc (s.win h.window).counters.commitsDone } }
        s.engine.quiet
        (if (s.win h.window).place.desc.map (·.doneReports) = some true then
          s.rep.take (.batchDone h.window h.id b.entries.length b.stamp) else s.rep))) := by
  simp only [State.completeCommit, State.leaveAtWork_replaced hw (.inl hb), State.countDone, State.mapWin_replaced,
    State.replaced_win, State.record_replaced, Place.reportsDone_iff]
  split
  · rw [State.releaseCycleRead_quiet]
    rfl
  · rw [State.releaseCycleRead_quiet]
    rfl

/-- After the last entry the commit completes (R90). -/
theorem State.writeNewDone_last {h : BatchInHand} {c : Cursor} {b : WaitBatch} {ws : List WaitBatch} {s : State}
    (hw : (s.win h.window).waiting = b :: ws) (hb : b.state = .committing) (hlast : b.entries[c.index + 1]? = none) :
    s.writeNewDone h b c = s.completeCommit h b := by
  simp only [State.writeNewDone, hlast]
  rw [State.completeCommit_eq hw hb]
  exact State.completeCommit_eq (h := { h with written := h.written + 1 })
    (s := { s with engine := { s.engine with inHand := some { h with written := h.written + 1 } } }) hw hb

/-- A rollback with its batch in hand completes (R103). -/
theorem State.completeRollback_inHand {c : FaultContext} {h : BatchInHand} {b : WaitBatch} {ws : List WaitBatch} {s : State}
    (hc : s.engine.context = some c) (hh : s.engine.inHand = some h) (hw : (s.win h.window).waiting = b :: ws)
    (hb : b.state = .rollingBack) :
    s.completeRollback = State.queueImmediate h.window (State.releaseCycleRead h.window
      (s.replaced h.window
        { s.win h.window with
          waiting := ws
          counters := { (s.win h.window).counters with batchesAborted := satInc (s.win h.window).counters.batchesAborted } }
        s.engine.quiet (s.rep.take (.batchAborted c.window c.id c.addr c.step c.rolledBack .restored)))) := by
  simp only [State.completeRollback, hc, hh, State.leaveAtWork_replaced hw (.inr hb), State.countAborted,
    State.mapWin_replaced, State.record_replaced, State.releaseCycleRead_quiet]
  rfl

/-- The same after the window and the engine have been replaced, as a failed access does with an empty log (R102). -/
theorem State.completeRollback_replaced {c : FaultContext} {h : BatchInHand} {b : WaitBatch} {ws : List WaitBatch} {w : Window}
    {g : Engine} {r : ReportUnit} {s : State} (hc : g.context = some c) (hh : g.inHand = some h)
    (hw : w.waiting = b :: ws) (hb : b.state = .rollingBack) :
    (s.replaced h.window w g r).completeRollback = State.queueImmediate h.window (State.releaseCycleRead h.window
      (s.replaced h.window
        { w with waiting := ws, counters := { w.counters with batchesAborted := satInc w.counters.batchesAborted } }
        g.quiet (r.take (.batchAborted c.window c.id c.addr c.step c.rolledBack .restored)))) := by
  have hwin := s.replaced_win h.window w g r
  refine (State.completeRollback_inHand (s := s.replaced h.window w g r) hc hh (by rw [hwin]; exact hw) hb).trans ?_
  rw [hwin, State.replaced_replaced]
  rfl

/-- Settles O28: the three ways in which a DONE access of a commit goes on. -/
theorem commitAccessDone : Obligations.CommitAccessDone := by
  refine ⟨?_, ?_, ?_⟩
  · intro h k b ws e old s hby hs hh hc hw hb he
    have hwork := Window.batchAtWork_head hw (.inl hb)
    rw [exec_memoryAnswer hby.1, State.endAccess_of_ce hby.2]
    change Host.Outcome.next (s.portFreed.endCommitAccess (.done old)).judgeAttn = _
    rw [State.endCommitAccess_readOld (s := s.portFreed) hs hh hc hwork he rfl]
    rfl
  · intro h k b ws e e2 old s hby hs hh hc hw hb he hnext
    have hwork := Window.batchAtWork_head hw (.inl hb)
    rw [exec_memoryAnswer hby.1, State.endAccess_of_ce hby.2]
    change Host.Outcome.next (s.portFreed.endCommitAccess (.done old)).judgeAttn = _
    rw [State.endCommitAccess_writeNew (s := s.portFreed) hs hh hc hwork he rfl, State.writeNewDone_next hnext]
    rfl
  · intro h k b ws e old s hby hs hh hc hw hb he hlast
    have hwork := Window.batchAtWork_head hw (.inl hb)
    rw [exec_memoryAnswer hby.1, State.endAccess_of_ce hby.2]
    change Host.Outcome.next (s.portFreed.endCommitAccess (.done old)).judgeAttn = _
    rw [State.endCommitAccess_writeNew (s := s.portFreed) hs hh hc hwork he rfl,
      State.writeNewDone_last (s := s.portFreed) hw hb hlast, State.completeCommit_eq (s := s.portFreed) hw hb]
    rfl

/-! ### The failure of a commit access (R88, R100 to R102) -/

theorem State.continueRollback_nonempty {us : List UndoRecord} {r : UndoRecord} {s : State} (hu : s.engine.undo = us ++ [r]) :
    s.continueRollback = s.placeCommit (.write r.addr (quadData r.old)) := by
  simp [State.continueRollback, hu]

theorem State.continueRollback_nil {s : State} (hu : s.engine.undo = []) : s.continueRollback = s.completeRollback := by
  simp [State.continueRollback, hu]

/-- The engine after a failed access of a commit: ROLLING_BACK, with the fault context set (R88, R100). -/
def Engine.failed (h : BatchInHand) (e : Entry) (c : Cursor) (g : Engine) : Engine :=
  { g with state := .rollingBack, cursor := none, context := some ⟨h.window, h.id, e.addr, c.step, 0⟩ }

section
variable {h : BatchInHand} {b : WaitBatch} {ws : List WaitBatch} {s : State}

theorem State.failCommit_eq (hw : (s.win h.window).waiting = b :: ws) (hb : b.state = .committing)
    (hclosed : ws.all (fun w => w.state == .closed) = true) (e : Entry) (c : Cursor) :
    s.failCommit h e c = State.continueRollback (s.replaced h.window
      { s.win h.window with waiting := { b with state := .rollingBack } :: ws } (s.engine.failed h e c) s.rep) := by
  simp only [State.failCommit, State.mapWin_eq_setWin, Window.restate_head hw hb (by decide) hclosed]
  rfl

/-- With records in the log, the write of the newest one is placed (R101). -/
theorem State.failCommit_nonempty {us : List UndoRecord} {r : UndoRecord} (hw : (s.win h.window).waiting = b :: ws)
    (hb : b.state = .committing) (hclosed : ws.all (fun w => w.state == .closed) = true) (hu : s.engine.undo = us ++ [r])
    (e : Entry) (c : Cursor) :
    s.failCommit h e c = State.placeCommit (.write r.addr (quadData r.old)) (s.replaced h.window
      { s.win h.window with waiting := { b with state := .rollingBack } :: ws } (s.engine.failed h e c) s.rep) := by
  rw [State.failCommit_eq hw hb hclosed]
  exact State.continueRollback_nonempty (us := us) hu

/-- With an empty log the rollback completes at once (R102). -/
theorem State.failCommit_nil (hh : s.engine.inHand = some h) (hw : (s.win h.window).waiting = b :: ws)
    (hb : b.state = .committing) (hclosed : ws.all (fun w => w.state == .closed) = true) (hu : s.engine.undo = [])
    (e : Entry) (c : Cursor) :
    s.failCommit h e c = State.queueImmediate h.window (State.releaseCycleRead h.window
      (s.replaced h.window
        { s.win h.window with
          waiting := ws
          counters := { (s.win h.window).counters with batchesAborted := satInc (s.win h.window).counters.batchesAborted } }
        s.engine.quiet (s.rep.take (.batchAborted h.window h.id e.addr c.step 0 .restored)))) := by
  refine (State.failCommit_eq hw hb hclosed e c).trans ((State.continueRollback_nil (by exact hu)).trans ?_)
  refine (State.completeRollback_replaced (by rfl) (by exact hh) (by rfl) (by rfl)).trans ?_
  rfl

end

/-- Settles O29: the failure begins the rollback, which completes at once where no record has been made yet. -/
theorem commitAccessFails : Obligations.CommitAccessFails := by
  constructor
  · intro how h c b ws e us r s hby hs hh hc hw hb hclosed he hu
    rw [State.endAccess_of_ce hby.2, State.endCommitAccess_failed (s := s.portFreed) hs hh hc
      (Window.batchAtWork_head hw (.inl hb)) he, State.failCommit_nonempty (s := s.portFreed) hw hb hclosed hu]
    rfl
  · intro how h c b ws e s hby hs hh hc hw hb hclosed he hu
    rw [State.endAccess_of_ce hby.2, State.endCommitAccess_failed (s := s.portFreed) hs hh hc
      (Window.batchAtWork_head hw (.inl hb)) he, State.failCommit_nil (s := s.portFreed) hh hw hb hclosed hu]
    rfl

/-! ### GATE (R82, R83) -/

/-- Settles O54. -/
theorem gateCommands : Obligations.GateCommands := by
  refine ⟨?_, ?_, ?_, ?_, ?_, ?_⟩
  · intro tag s h
    exact event_takeRequest_answered (t := { s with engine := { s.engine with gate := .held } }) h rfl rfl
  · intro tag s h
    exact event_takeRequest_answered (t := { s with engine := { s.engine with gate := .opened } }) h rfl rfl
  · intro tag s h
    exact event_takeRequest_only_answered h rfl
  · intro h b older newer s hh hw hb hnone
    have hwork : (s.win h.window).batchAtWork = some b := by
      rw [Window.batchAtWork, hw, List.find?_append, List.find?_eq_none.2 (by simpa using hnone), Option.none_or,
        List.find?_cons_of_pos (by simpa using hb)]
    simp only [State.handEntries, hh, hwork]
  · intro s hh
    simp [State.handEntries, hh]
  · intro h s hh hnone
    have hwork : (s.win h.window).batchAtWork = none := List.find?_eq_none.2 (by simpa using hnone)
    simp only [State.handEntries, hh, hwork]

end Sys2Proof.Machine
end

section
/-! SUPPORT. The device law as one structure, `State.Laws`, with what an operation may leave owing on the way: a command in the slot may
still be owed its answer, and an engine at work its next access. `Window.Calm` is a change of one window that none of the laws of the
engine and of the commit queue sees. -/

namespace Sys2Proof.Machine

/-! ### The batches of one window -/

/-- A waiting list of CLOSED batches only. -/
abbrev allClosed (ws : List WaitBatch) : Prop := ws.all (fun c => c.state == .closed) = true

theorem allClosed_cons {b : WaitBatch} {ws : List WaitBatch} : allClosed (b :: ws) ↔ b.state = .closed ∧ allClosed ws := by
  simp [allClosed]

/-- Under the batch law, a batch that is not CLOSED is the head of its waiting list (R24). -/
theorem Window.batchLaw.head_of_find {w : Window} (h : w.batchLaw) {p : WaitBatch → Bool} {b : WaitBatch}
    (hp : ∀ c, c.state = .closed → p c = false) (hf : w.waiting.find? p = some b) :
    ∃ ws, w.waiting = b :: ws ∧ allClosed ws := by
  obtain ⟨-, -, -, htail⟩ := h
  cases hw : w.waiting with
  | nil => simp [hw] at hf
  | cons c ws =>
    rw [hw, List.tail_cons] at htail
    have hclosed : allClosed ws := List.all_eq_true.2 fun d hd => beq_iff_eq.2 (htail d hd)
    cases hc : p c with
    | true =>
      rw [hw, List.find?_cons_of_pos hc] at hf
      cases hf
      exact ⟨ws, rfl, hclosed⟩
    | false =>
      rw [hw, List.find?_cons_of_neg (by simp [hc])] at hf
      have hb := List.find?_some hf
      rw [hp b (htail b (List.mem_of_find?_eq_some hf))] at hb
      cases hb

theorem Window.batchLaw.head_of_queued {w : Window} (h : w.batchLaw) {b : WaitBatch} (hb : w.queuedBatch = some b) :
    ∃ ws, w.waiting = b :: ws ∧ b.state = .queued ∧ allClosed ws := by
  obtain ⟨ws, hw, hclosed⟩ := h.head_of_find (by simp +contextual) hb
  exact ⟨ws, hw, by simpa using List.find?_some (p := fun c : WaitBatch => c.state == .queued) hb, hclosed⟩

theorem Window.batchLaw.head_of_atWork {w : Window} (h : w.batchLaw) {b : WaitBatch} (hb : w.batchAtWork = some b) :
    ∃ ws, w.waiting = b :: ws ∧ (b.state = .committing ∨ b.state = .rollingBack) ∧ allClosed ws := by
  obtain ⟨ws, hw, hclosed⟩ := h.head_of_find (by simp +contextual) hb
  exact ⟨ws, hw, by simpa using List.find?_some hb, hclosed⟩

theorem Window.queuedBatch_of_closed {w : Window} (h : allClosed w.waiting) : w.queuedBatch = none := by
  refine List.find?_eq_none.2 fun c hc => ?_
  have hstate : c.state = .closed := eq_of_beq (List.all_eq_true.1 h c hc)
  simp [hstate]

theorem Window.batchAtWork_of_closed {w : Window} (h : allClosed w.waiting) : w.batchAtWork = none := by
  refine List.find?_eq_none.2 fun c hc => ?_
  have hstate : c.state = .closed := eq_of_beq (List.all_eq_true.1 h c hc)
  simp [hstate]

/-- Behind a batch at work no batch is QUEUED. -/
theorem Window.queuedBatch_of_atWork {w : Window} {b : WaitBatch} {ws : List WaitBatch} (hw : w.waiting = b :: ws)
    (hb : b.state ≠ .queued) (hclosed : allClosed ws) : w.queuedBatch = none := by
  rw [Window.queuedBatch, hw, List.find?_cons_of_neg (by simpa using hb)]
  exact Window.queuedBatch_of_closed (w := { w with waiting := ws }) hclosed

/-- Before a QUEUED batch, and behind it, no batch is at work. -/
theorem Window.batchAtWork_of_queued {w : Window} {b : WaitBatch} {ws : List WaitBatch} (hw : w.waiting = b :: ws)
    (hb : b.state = .queued) (hclosed : allClosed ws) : w.batchAtWork = none := by
  rw [Window.batchAtWork, hw, List.find?_cons_of_neg (by simp [hb])]
  exact Window.batchAtWork_of_closed (w := { w with waiting := ws }) hclosed

/-- The batches of a window keep within its batch limit, and only a HELD window has any (R7, R24). -/
def Window.withinLimits (w : Window) : Prop :=
  (w.place.heldFields = none → w.openBatch = none ∧ w.waiting = []) ∧
    ∀ f ∈ w.place.heldFields, (openEntries w.openBatch).length ≤ f.batchLimit.toNat ∧
      ∀ b ∈ w.waiting, b.entries.length ≤ f.batchLimit.toNat

/-- A window with a batch is HELD. -/
theorem Window.withinLimits.isHeld {w : Window} (h : w.withinLimits) (hb : w.openBatch ≠ none ∨ w.waiting ≠ []) :
    w.place.heldFields ≠ none := fun hnone =>
  hb.elim (absurd (h.1 hnone).1) (absurd (h.1 hnone).2)

/-- Fewer batches, of no other entries, keep within the limit. -/
theorem Window.withinLimits.of_subset {w v : Window} (h : w.withinLimits) (hp : v.place.heldFields = w.place.heldFields)
    (hnone : w.openBatch = none → v.openBatch = none) (ho : (openEntries v.openBatch).length ≤ (openEntries w.openBatch).length)
    (hw : v.waiting ⊆ w.waiting) : v.withinLimits := by
  obtain ⟨hclass, hlimit⟩ := h
  rw [Window.withinLimits, hp]
  refine ⟨fun hn => ⟨hnone (hclass hn).1, ?_⟩, fun f hf =>
    ⟨Nat.le_trans ho (hlimit f hf).1, fun b hb => (hlimit f hf).2 b (hw hb)⟩⟩
  exact List.subset_nil.1 ((hclass hn).2 ▸ hw)

/-- Batches with the same entries keep within the limit. -/
theorem Window.withinLimits.restates {w v : Window} (h : w.withinLimits) (hp : v.place.heldFields = w.place.heldFields)
    (ho : v.openBatch = w.openBatch) (hw : v.waiting.map (·.entries) = w.waiting.map (·.entries)) : v.withinLimits := by
  obtain ⟨hclass, hlimit⟩ := h
  rw [Window.withinLimits, hp, ho]
  refine ⟨fun hn => ⟨(hclass hn).1, ?_⟩, fun f hf => ⟨(hlimit f hf).1, fun b hb => ?_⟩⟩
  · rw [(hclass hn).2] at hw
    exact List.map_eq_nil_iff.1 hw
  · have hes : b.entries ∈ v.waiting.map (·.entries) := List.mem_map_of_mem hb
    rw [hw] at hes
    obtain ⟨c, hc, hce⟩ := List.mem_map.1 hes
    rw [← hce]
    exact (hlimit f hf).2 c hc

/-- A change of one window that leaves its place and its batches QUEUED and at work, and keeps the laws of its batches. -/
structure Window.Calm (w v : Window) : Prop where
  place : v.place = w.place
  queued : v.queuedBatch = w.queuedBatch
  atWork : v.batchAtWork = w.batchAtWork
  limits : w.withinLimits → v.withinLimits
  batches : w.batchLaw → v.batchLaw

theorem Window.Calm.refl (w : Window) : w.Calm w := ⟨rfl, rfl, rfl, id, id⟩

theorem Window.Calm.counters (w : Window) (c : WindowCounters) : w.Calm { w with counters := c } := ⟨rfl, rfl, rfl, id, id⟩

/-- An open batch without entries comes into a HELD window's slot, or the slot is emptied. -/
theorem Window.Calm.openBatch {w : Window} {b : Option OpenBatch} (h : openEntries b = [])
    (hheld : b ≠ none → w.place.heldFields ≠ none) : w.Calm { w with openBatch := b } where
  place := rfl
  queued := rfl
  atWork := rfl
  limits := by
    rintro ⟨hclass, hlimit⟩
    refine ⟨fun hn => ⟨?_, (hclass hn).2⟩, fun f hf => ⟨by simp [h], (hlimit f hf).2⟩⟩
    exact Classical.byContradiction fun hb => hheld hb hn
  batches := (Window.Tame.openBatch w b h).batches

/-- The open batch of a HELD window takes a write (R20, R25). -/
theorem Window.Calm.takes {w : Window} {f : HeldFields} {new : List Entry} (id : Half) (hf : w.place.heldFields = some f)
    (hgood : goodEntries (openEntries w.openBatch) → goodEntries new) (hlimit : new.length ≤ f.batchLimit.toNat) :
    w.Calm { w with openBatch := some (.gathering id new) } where
  place := rfl
  queued := rfl
  atWork := rfl
  limits := by
    rintro ⟨-, hlim⟩
    refine ⟨fun hn => (Option.some_ne_none f (hf.symm.trans hn)).elim, fun g hg => ⟨?_, (hlim g hg).2⟩⟩
    obtain rfl : f = g := Option.some.inj (hf.symm.trans hg)
    exact hlimit
  batches := fun ⟨hopen, hrest⟩ => ⟨hgood hopen, hrest⟩

/-- The open batch closes, with room behind the others (R32). -/
theorem Window.Calm.close {w : Window} {id : Half} {es : List Entry} (cause : CloseCause)
    (ho : w.openBatch = some (.gathering id es)) (hne : es ≠ []) (hroom : w.hasRoom = true) :
    w.Calm (w.close id es cause) where
  place := rfl
  queued := by simp [Window.close, Window.queuedBatch]
  atWork := by simp [Window.close, Window.batchAtWork]
  limits := by
    rintro ⟨hclass, hlimit⟩
    refine ⟨fun hn => (Option.some_ne_none _ (ho.symm.trans (hclass hn).1)).elim, fun f hf => ⟨Nat.zero_le _, fun b hb => ?_⟩⟩
    obtain ⟨hopen, hwaiting⟩ := hlimit f hf
    rcases List.mem_append.1 hb with hb | hb
    · exact hwaiting b hb
    · rw [ho] at hopen
      rw [List.mem_singleton.1 hb]
      exact hopen
  batches := (Window.Tame.close w id es cause (by rw [ho]; rfl) hne hroom).batches

/-- A filter that lets all that is searched for pass does not change what is found. -/
theorem find?_filter_of_imp {α : Type} {p q : α → Bool} (h : ∀ a, p a = true → q a = true) (l : List α) :
    (l.filter q).find? p = l.find? p := by
  induction l with
  | nil => rfl
  | cons a l ih =>
    cases hq : q a with
    | true => rw [List.filter_cons_of_pos hq, List.find?_cons, List.find?_cons, ih]
    | false =>
      have hp : ¬p a = true := fun hp => Bool.false_ne_true (hq.symm.trans (h a hp))
      rw [List.filter_cons_of_neg (by simp [hq]), List.find?_cons_of_neg hp, ih]

/-- The CLOSED batches leave (R15, R38). -/
theorem Window.Calm.dropClosed (w : Window) : w.Calm { w with waiting := w.waiting.filter (·.state != .closed) } where
  place := rfl
  queued := find?_filter_of_imp (by simp +contextual) _
  atWork := by
    refine find?_filter_of_imp (fun c hc => ?_) _
    rcases Bool.or_eq_true_iff.1 hc with hs | hs <;> simp [eq_of_beq hs]
  limits := fun h => h.of_subset rfl id (Nat.le_refl _) List.filter_sublist.subset
  batches := (Window.Tame.waiting w _ List.filter_sublist).batches

/-! ### The law of the engine without that of the queue -/

/-- The engine's fields that tell what is at work; the others blanked. -/
def Engine.work (e : Engine) : Engine := { e with gate := .opened, queue := [], resumedWrites := 0 }

/-- What the Commit Engine holds in each of its states (R79, R89, R100, R107). -/
def State.workLaw (s : State) : Prop :=
  (s.engine.state = .idle → s.idleLaw) ∧ (s.engine.state = .committing → s.committingLaw) ∧
    (s.engine.state = .rollingBack → s.rollingBackLaw) ∧ (s.engine.state = .halted → s.haltedLaw)

/-- The law holds on where the engine's work and the batches at work are the same, no window becomes FAULTED or is cleared, the window
of the fault context stays a HELD one, and nothing is queued from a FAULTED window. -/
theorem State.workLaw.congr {s t : State} (h : s.workLaw) (he : t.engine.work = s.engine.work)
    (hwork : ∀ i, (t.win i).batchAtWork = (s.win i).batchAtWork)
    (hfaulted : ∀ i, (t.win i).place.isFaulted = (s.win i).place.isFaulted)
    (hheld : ∀ c ∈ s.engine.context, s.engine.inHand = none → s.isHeldWindow c.window → t.isHeldWindow c.window)
    (hqueued : ∀ i, (s.win i).place.isFaulted = true → (s.win i).queuedBatch = none → (t.win i).queuedBatch = none) :
    t.workLaw := by
  have hstate : t.engine.state = s.engine.state := (congrArg Engine.state he :)
  have hhand : t.engine.inHand = s.engine.inHand := (congrArg Engine.inHand he :)
  have hcursor : t.engine.cursor = s.engine.cursor := (congrArg Engine.cursor he :)
  have hundo : t.engine.undo = s.engine.undo := (congrArg Engine.undo he :)
  have hcontext : t.engine.context = s.engine.context := (congrArg Engine.context he :)
  obtain ⟨hidle, hcommitting, hrolling, hhalted⟩ := h
  rw [State.workLaw, hstate]
  refine ⟨fun hs => ?_, fun hs => ?_, fun hs => ?_, fun hs => ?_⟩
  · simpa only [State.idleLaw, State.atWorkOnly, State.noneFaulted, hhand, hcursor, hundo, hcontext, hwork, hfaulted]
      using hidle hs
  · simpa only [State.committingLaw, State.handLaw, State.cursorLaw, State.atWorkOnly, State.noneFaulted, hhand, hcursor,
      hundo, hcontext, hwork, hfaulted] using hcommitting hs
  · obtain ⟨hnone, hc, hne, hlen, c, hcc, hin, hresumed⟩ := hrolling hs
    simp only [State.rollingBackLaw, State.handLaw, State.atWorkOnly, State.noneFaulted, hhand, hcursor, hundo, hcontext,
      hwork, hfaulted]
    exact ⟨hnone, hc, hne, hlen, c, hcc, hin, fun hh => ⟨hheld c hcc hh (hresumed hh).1, (hresumed hh).2⟩⟩
  · obtain ⟨hh, hc, hne, hlen, honly, c, hcc, hhw, hnoq, hiff⟩ := hhalted hs
    simp only [State.haltedLaw, State.atWorkOnly, hhand, hcursor, hundo, hcontext, hwork, hfaulted]
    exact ⟨hh, hc, hne, hlen, honly, c, hcc, hheld c hcc hh hhw, hqueued _ ((hiff _).2 rfl) hnoq, hiff⟩

/-- What a window has in common with the one that replaces it, every window keeps. -/
theorem State.win_congr_of_setWin {α : Type} {s t : State} {i : WIdx} {w : Window} (P : Window → α)
    (ht : t.windows = (s.setWin i w).windows) (h : P w = P (s.win i)) (j : WIdx) : P (t.win j) = P (s.win j) := by
  have hwin : t.win j = if i = j then w else s.win j := by rw [← State.setWin_win, State.win, State.win, ht]
  rw [hwin]
  split
  · next hij => rw [← hij, h]
  · rfl

/-- The law over a change of one window that leaves its place and its batch at work. -/
theorem State.workLaw.setWin {s t : State} (h : s.workLaw) {i : WIdx} {w : Window}
    (ht : t.windows = (s.setWin i w).windows) (he : t.engine.work = s.engine.work) (hplace : w.place = (s.win i).place)
    (hwork : w.batchAtWork = (s.win i).batchAtWork)
    (hqueued : (s.win i).place.isFaulted = true → (s.win i).queuedBatch = none → w.queuedBatch = none) : t.workLaw := by
  have hplaces : ∀ j, (t.win j).place = (s.win j).place := State.win_congr_of_setWin Window.place ht hplace
  refine h.congr he (State.win_congr_of_setWin Window.batchAtWork ht hwork) (fun j => by rw [hplaces])
    (fun c _ _ hheld => by rwa [State.isHeldWindow, hplaces]) fun j hj hq => ?_
  have hwin : t.win j = if i = j then w else s.win j := by rw [← State.setWin_win, State.win, State.win, ht]
  rw [hwin]
  split
  · next hij => subst hij; exact hqueued hj hq
  · exact hq

/-! ### The laws, with what is owing -/

/-- The laws of the windows, of their batches and of the held write. -/
structure State.StoreLaws (s : State) : Prop where
  windows : s.windowLaw
  batches : s.batchLaw
  limits : ∀ i, (s.win i).withinLimits
  write : ∀ x ∈ s.upd.state.heldWrite, (s.win x.window).place.heldFields = some x.fields

/-- The device law, but that the command in the slot may still be owed an answer (`answer`), and an engine at work its next access
(`access`). -/
structure State.Laws (answer access : Bool) (s : State) : Prop extends s.StoreLaws where
  slot : s.svc.probe.isSome.toNat + s.engine.resumed.toNat + s.engine.fullReset.toNat + answer.toNat =
    s.svc.slot.isWorking.toNat
  collect : s.collectLaw
  queue : s.queueLaw
  work : s.workLaw
  update : s.arb.up = s.upd.state.waits ∧ s.arb.onPort .up = s.upd.state.under
  cycle : s.arb.cp = s.cyc.state.waits ∧ s.arb.onPort .cp = s.cyc.state.under
  commit : s.arb.ce.isSome.toNat + (s.arb.onPort .ce).isSome.toNat + access.toNat = s.engine.atWork.toNat
  probe : s.arb.sl.isSome.toNat + (s.arb.onPort .sl).isSome.toNat = s.svc.probe.isSome.toNat
  read : s.heldReadLaw

/-- With nothing owing, the laws are the device law. -/
theorem State.deviceLaw_iff (s : State) : s.deviceLaw ↔ s.Laws false false := by
  constructor
  · rintro ⟨hwin, hbat, ⟨hclass, hlimit, hwrite⟩, hslot, hcollect, ⟨hqueue, hwork⟩, ⟨hup, hcp, hce, hsl⟩, hread⟩
    exact ⟨⟨hwin, hbat, fun i => ⟨hclass i, hlimit i⟩, hwrite⟩, hslot, hcollect, hqueue, hwork, hup, hcp, hce, hsl, hread⟩
  · rintro ⟨⟨hwin, hbat, hlimits, hwrite⟩, hslot, hcollect, hqueue, hwork, hup, hcp, hce, hsl, hread⟩
    exact ⟨hwin, hbat, ⟨fun i => (hlimits i).1, fun i => (hlimits i).2, hwrite⟩, hslot, hcollect, ⟨hqueue, hwork⟩,
      ⟨hup, hcp, hce, hsl⟩, hread⟩

/-- An operation that keeps the laws, whatever is owing. -/
abbrev LawsKept (f : State → State) : Prop :=
  ∀ ⦃answer access : Bool⦄ ⦃s : State⦄, s.Laws answer access → (f s).Laws answer access

/-- The law of the queue speaks of the queue and of the QUEUED batches alone. -/
theorem State.queueLaw.congr {s t : State} (h : s.queueLaw) (he : t.engine.queue = s.engine.queue)
    (hq : ∀ i, (t.win i).queuedBatch = (s.win i).queuedBatch) : t.queueLaw := by
  simpa only [State.queueLaw, he, hq] using h

theorem State.collectLaw.congr {s t : State} (h : s.collectLaw) (hs : t.svc = s.svc) : t.collectLaw := by
  simpa only [State.collectLaw, State.reasonResponse, hs] using h

theorem State.heldReadLaw.of_none {s : State} (h : s.cyc.state.heldRead = none) : s.heldReadLaw := by
  intro t ht
  rw [h] at ht
  cases ht

/-- One window changes, and keeps its HELD-only fields. -/
theorem State.StoreLaws.setWin {s t : State} (h : s.StoreLaws) {i : WIdx} {w : Window} (hw : (s.win i).Tame w)
    (hp : w.place.heldFields = (s.win i).place.heldFields) (hlimits : (s.win i).withinLimits → w.withinLimits)
    (ht : t.windows = (s.setWin i w).windows) (hu : t.upd.state = s.upd.state) : t.StoreLaws := by
  have hkeep : s.KeepsLaws t := (State.KeepsLaws.mapWin i (fun _ => w) hw).frame ht
  have hwin : ∀ j, t.win j = if i = j then w else s.win j := fun j => by
    rw [← State.setWin_win, State.win, State.win, ht]
  refine ⟨hkeep.windows h.windows, hkeep.batches h.batches, fun j => ?_, fun x hx => ?_⟩
  · rw [hwin]
    split
    · exact hlimits (h.limits i)
    · exact h.limits j
  · rw [hu] at hx
    rw [hwin, ← h.write x hx]
    split
    · next hix => rw [hp, hix]
    · rfl

section
variable {answer access : Bool} {s t : State}

/-- Calm changes of the windows, and changes of what the laws do not speak of, keep the laws. -/
theorem State.Laws.calm (h : s.Laws answer access) (hw : ∀ i, (s.win i).Calm (t.win i))
    (hu : t.upd.state = s.upd.state) (hc : t.cyc.state = s.cyc.state) (he : t.engine = s.engine) (ha : t.arb = s.arb)
    (hs : t.svc = s.svc) : t.Laws answer access where
  windows := .of_desc (fun i d hd => (hw i).place ▸ hd) h.windows
  batches := fun i => (hw i).batches (h.batches i)
  limits := fun i => (hw i).limits (h.limits i)
  write := by
    rw [hu]
    exact fun x hx => (hw x.window).place ▸ h.write x hx
  slot := by rw [he, hs]; exact h.slot
  collect := h.collect.congr hs
  queue := h.queue.congr (by rw [he]) fun i => (hw i).queued
  work := h.work.congr (by rw [he]) (fun i => (hw i).atWork) (fun i => by rw [(hw i).place])
    (fun c _ _ hheld => by rw [State.isHeldWindow, (hw _).place]; exact hheld) fun i _ hq => by rw [(hw i).queued]; exact hq
  update := by rw [ha, hu]; exact h.update
  cycle := by rw [ha, hc]; exact h.cycle
  commit := by rw [ha, he]; exact h.commit
  probe := by rw [ha, hs]; exact h.probe
  read := by
    have hread := h.read
    unfold State.heldReadLaw at hread ⊢
    rw [hc]
    simpa only [State.inHandWindow, he] using hread

/-- Changes of what the laws do not speak of keep the laws. -/
theorem State.Laws.frame (h : s.Laws answer access) (hw : t.windows = s.windows) (hu : t.upd.state = s.upd.state)
    (hc : t.cyc.state = s.cyc.state) (he : t.engine = s.engine) (ha : t.arb = s.arb) (hs : t.svc = s.svc) :
    t.Laws answer access :=
  h.calm (fun i => by rw [State.win, State.win, hw]; exact .refl _) hu hc he ha hs

theorem State.Laws.mapWin (h : s.Laws answer access) (i : WIdx) {f : Window → Window} (hf : (s.win i).Calm (f (s.win i))) :
    (s.mapWin i f).Laws answer access := by
  refine h.calm (fun j => ?_) rfl rfl rfl rfl rfl
  by_cases hij : i = j
  · subst hij; rwa [State.mapWin_win_same]
  · rw [State.mapWin_win_other _ _ _ _ hij]; exact .refl _

/-- The Update Port Unit has nothing waiting at the arbiter and nothing on the memory port. -/
def UpdateState.offBus (u : UpdateState) : Prop := u.waits = none ∧ u.under = none

theorem UpdateState.offBus.idle : UpdateState.idle.offBus := ⟨rfl, rfl⟩

theorem UpdateState.offBus.held (x : StagedWrite) (f : WaitsFor) (t : HoldTimer) : (UpdateState.held x f t).offBus := ⟨rfl, rfl⟩

/-- The Update Port Unit goes from one state off the bus to another. -/
theorem State.Laws.setUpdate (h : s.Laws answer access) {u : UpdateUnit} (hs : s.upd.state.offBus) (hu : u.state.offBus)
    (hx : ∀ x ∈ u.state.heldWrite, (s.win x.window).place.heldFields = some x.fields) :
    { s with upd := u : State }.Laws answer access := by
  obtain ⟨hwaits, hunder⟩ := h.update
  exact { h with write := hx, update := ⟨by rw [hu.1, hwaits, hs.1], by rw [hu.2, hunder, hs.2]⟩ }

theorem State.Laws.answerUpdate (h : s.Laws answer access) (hs : s.upd.state.offBus) (a : Answer) :
    (s.answerUpdate a).Laws answer access :=
  h.setUpdate hs .idle nofun

/-- The Cycle Port Unit has nothing waiting at the arbiter and nothing on the memory port. -/
def CycleState.offBus (c : CycleState) : Prop := c.waits = none ∧ c.under = none

theorem CycleState.offBus.idle : CycleState.idle.offBus := ⟨rfl, rfl⟩

theorem CycleState.offBus.held (t : CycleTxn) : (CycleState.held t).offBus := ⟨rfl, rfl⟩

/-- The Cycle Port Unit goes from one state off the bus to another. -/
theorem State.Laws.setCycle (h : s.Laws answer access) {c : CycleUnit} (hs : s.cyc.state.offBus) (hc : c.state.offBus)
    (hread : { s with cyc := c : State }.heldReadLaw) : { s with cyc := c : State }.Laws answer access := by
  obtain ⟨hwaits, hunder⟩ := h.cycle
  exact { h with cycle := ⟨by rw [hc.1, hwaits, hs.1], by rw [hc.2, hunder, hs.2]⟩, read := hread }

theorem State.Laws.answerCycle (h : s.Laws answer access) (hs : s.cyc.state.offBus) (a : Answer) :
    (s.answerCycle a).Laws answer access :=
  h.setCycle hs .idle (.of_none rfl)

/-- A cycle read of the window in hand is held (R124, R125). -/
theorem State.Laws.holdRead (h : s.Laws answer access) (hs : s.cyc.state.offBus) {t : CycleTxn} {i : WIdx}
    (ht : t.decode.heldWindow = some i) (hi : s.inHandWindow = some i) :
    { s with cyc := { s.cyc with state := .held t } : State }.Laws answer access := by
  refine h.setCycle hs (.held t) fun u hu => ?_
  obtain rfl : t = u := Option.some.inj hu
  exact ⟨by rw [ht]; rfl, ht.trans hi.symm⟩

theorem State.Laws.placeUpdate (h : s.Laws answer access) (hs : s.upd.state.offBus) (t : UpdateTxn) :
    (s.placeUpdate t).Laws answer access := by
  obtain ⟨-, hunder⟩ := h.update
  exact { h with write := nofun, update := ⟨rfl, hunder.trans hs.2⟩ }

theorem State.Laws.placeCycle (h : s.Laws answer access) (hs : s.cyc.state.offBus) (t : CycleTxn) :
    (s.placeCycle t).Laws answer access := by
  obtain ⟨-, hunder⟩ := h.cycle
  exact { h with cycle := ⟨rfl, hunder.trans hs.2⟩, read := .of_none rfl }

end

theorem LawsKept.comp {f g : State → State} (hg : LawsKept g) (hf : LawsKept f) : LawsKept fun s => g (f s) :=
  fun _ _ _ h => hg (hf h)

theorem LawsKept.foldl {α : Type} {f : State → α → State} (h : ∀ a, LawsKept (f · a)) (l : List α) :
    LawsKept (l.foldl f) := by
  intro answer access s hs
  induction l generalizing s with
  | nil => exact hs
  | cons a l ih => exact ih (h a hs)

/-! ### Records, counters and discards -/

theorem State.record_lawsKept (b : RecordBody) : LawsKept (State.record b) := fun _ _ _ h => { h with }

theorem State.judgeAttn_lawsKept : LawsKept State.judgeAttn := fun _ _ _ h => { h with }

theorem State.countDenied_lawsKept (i : WIdx) : LawsKept (State.countDenied i) := fun _ _ _ h => h.mapWin i (.counters _ _)

theorem State.countSpoiled_lawsKept (i : WIdx) : LawsKept (State.countSpoiled i) := fun _ _ _ h => h.mapWin i (.counters _ _)

theorem State.countOverrun_lawsKept (i : WIdx) : LawsKept (State.countOverrun i) := fun _ _ _ h => h.mapWin i (.counters _ _)

theorem State.deny_lawsKept (port : Port) (r : BusRequest) (i : WIdx) (reason : DenyReason) :
    LawsKept (State.deny port r i reason) :=
  fun _ _ _ h => State.countDenied_lawsKept i (State.record_lawsKept _ h)

theorem State.emptySlot_lawsKept (i : WIdx) : LawsKept (State.emptySlot i) :=
  fun _ _ _ h => h.mapWin i (.openBatch rfl fun hne => absurd rfl hne)

theorem State.discardOpen_lawsKept (i : WIdx) (cause : DiscardCause) : LawsKept (State.discardOpen i cause) := by
  intro answer access s h
  unfold State.discardOpen
  split
  · exact State.record_lawsKept _ (State.emptySlot_lawsKept i h)
  · exact h

theorem State.discardClosed_lawsKept (i : WIdx) (cause : DiscardCause) : LawsKept (State.discardClosed i cause) :=
  fun _ _ _ h => LawsKept.foldl (fun _ => State.record_lawsKept _) _ (h.mapWin i (.dropClosed _))

theorem State.faultHeldOf_lawsKept (i : WIdx) : LawsKept (State.faultHeldOf i) := by
  intro answer access s h
  unfold State.faultHeldOf
  split
  · next x f t hs =>
    split
    · exact h.answerUpdate (hs ▸ .held x f t) _
    · exact h
  · exact h

theorem State.faultHeld_lawsKept : LawsKept State.faultHeld := by
  intro answer access s h
  unfold State.faultHeld
  split
  · next x f t hs => exact h.answerUpdate (hs ▸ .held x f t) _
  · exact h

/-! ### The commit queue -/

theorem Place.activeHeld_not_faulted {p : Place} (h : p.activeHeld ≠ none) : p.isFaulted = false := by
  cases p with
  | faulted d => exact absurd rfl h
  | active d => rfl
  | free => rfl

/-- A batch of a window that has none QUEUED is queued (R80). -/
theorem State.queueLaw.push {s t : State} (h : s.queueLaw) {i : WIdx} {id : Half} (hnone : (s.win i).queuedBatch = none)
    (hnew : (t.win i).queuedBatch.map (·.id) = some id)
    (hother : ∀ j, i ≠ j → (t.win j).queuedBatch = (s.win j).queuedBatch)
    (he : t.engine.queue = s.engine.queue ++ [(i, id)]) : t.queueLaw := by
  obtain ⟨hnodup, hmem, hall⟩ := h
  have hfresh : ∀ q ∈ s.engine.queue, i ≠ q.1 := by
    rintro q hq rfl
    have hid := hmem q hq
    rw [hnone] at hid
    cases hid
  rw [State.queueLaw, he, List.map_append]
  refine ⟨?_, fun q hq => ?_, fun j hj => ?_⟩
  · refine List.nodup_append.2 ⟨hnodup, by simp, fun a ha b hb => ?_⟩
    obtain ⟨q, hq, rfl⟩ := List.mem_map.1 ha
    rw [List.mem_singleton.1 hb]
    exact (hfresh q hq).symm
  · rcases List.mem_append.1 hq with hq | hq
    · rw [hother _ (hfresh q hq)]
      exact hmem q hq
    · rw [List.mem_singleton.1 hq]
      exact hnew
  · by_cases hij : i = j
    · simp [hij]
    · rw [hother j hij] at hj
      exact List.mem_append_left _ (hall j hj)

/-- A window's entry leaves the queue with its QUEUED batch (R39, R84). -/
theorem State.queueLaw.drop {s t : State} (h : s.queueLaw) {i : WIdx} (hnone : (t.win i).queuedBatch = none)
    (hother : ∀ j, i ≠ j → (t.win j).queuedBatch = (s.win j).queuedBatch)
    (he : t.engine.queue = s.engine.queue.filter fun q => q.1 != i) : t.queueLaw := by
  obtain ⟨hnodup, hmem, hall⟩ := h
  rw [State.queueLaw, he]
  refine ⟨hnodup.sublist (List.filter_sublist.map _), fun q hq => ?_, fun j hj => ?_⟩
  · obtain ⟨hq, hne⟩ := List.mem_filter.1 hq
    rw [hother _ (by simpa using Ne.symm (by simpa using hne))]
    exact hmem q hq
  · have hij : i ≠ j := by
      rintro rfl
      exact hj hnone
    rw [hother j hij] at hj
    obtain ⟨q, hq, rfl⟩ := List.mem_map.1 (hall j hj)
    exact List.mem_map.2 ⟨q, List.mem_filter.2 ⟨hq, by simpa using hij.symm⟩, rfl⟩

/-- A batch is queued from an ACTIVE HELD window (R75, R80, R92). -/
theorem State.Laws.queueFrom {answer access : Bool} {s t : State} {i : WIdx} {stamp : Option Stamp} (h : s.Laws answer access)
    (hact : (s.win i).place.activeHeld ≠ none) (hq : s.queueFrom stamp i = some t) : t.Laws answer access := by
  cases hidle : (s.win i).idle with
  | false => rw [State.queueFrom_none (.inl hidle)] at hq; cases hq
  | true =>
  cases hw : (s.win i).waiting with
  | nil => rw [State.queueFrom_none (.inr hw)] at hq; cases hq
  | cons b ws =>
  rw [State.queueFrom_oldest hw hidle] at hq
  cases hq
  have hall : allClosed (s.win i).waiting := hidle
  have hclosed : allClosed ws := by
    rw [hw] at hall
    exact (allClosed_cons.1 hall).2
  have hnone : (s.win i).queuedBatch = none := Window.queuedBatch_of_closed hidle
  have hwork : (s.win i).batchAtWork = none := Window.batchAtWork_of_closed hidle
  exact { h with
    toStoreLaws := h.toStoreLaws.setWin (.queueOldest (Window.queueOldest_cons stamp _ b ws hw hidle)) rfl
      (fun hl => hl.restates rfl rfl (by simp [hw])) rfl rfl
    queue := h.queue.push (i := i) (id := b.id) hnone
      (congrArg (fun v : Window => v.queuedBatch.map (·.id)) (State.setWin_win_same i _ s))
      (fun j hij => congrArg Window.queuedBatch (State.setWin_win_other i j _ s hij)) rfl
    work := h.work.setWin rfl rfl rfl ((Window.batchAtWork_of_queued rfl rfl hclosed).trans hwork.symm)
      fun hfaulted => absurd hfaulted (by simp [Place.activeHeld_not_faulted hact]) }

end Sys2Proof.Machine
end

section
/-! SUPPORT. The Staging Store, the two upstream ports and the delivery of epochs under the device law. -/

namespace Sys2Proof.Machine

/-! ### Queueing, closing and the commands' discards -/

theorem State.queueImmediate_lawsKept (i : WIdx) : LawsKept (State.queueImmediate i) := by
  intro answer access s h
  unfold State.queueImmediate
  split
  · next f hact =>
    split
    · cases hq : s.queueFrom none i with
      | none => exact h
      | some t => exact h.queueFrom (by simp [hact]) hq
    · exact h
  · exact h

/-- The window's QUEUED batch leaves with its entry in the commit queue (R39, R113). -/
theorem State.discardQueued_lawsKept (i : WIdx) (cause : DiscardCause) : LawsKept (State.discardQueued i cause) := by
  intro answer access s h
  cases hb : (s.win i).queuedBatch with
  | none => simpa only [State.discardQueued, hb] using h
  | some b =>
  obtain ⟨ws, hw, hstate, hclosed⟩ := (h.batches i).head_of_queued hb
  have hsub : ws ⊆ (s.win i).waiting := hw ▸ List.subset_cons_self b ws
  have hnone : ({ s.win i with waiting := ws } : Window).queuedBatch = none := Window.queuedBatch_of_closed hclosed
  have hwork : ({ s.win i with waiting := ws } : Window).batchAtWork = (s.win i).batchAtWork :=
    (Window.batchAtWork_of_closed hclosed).trans (Window.batchAtWork_of_queued hw hstate hclosed).symm
  rw [State.discardQueued_head cause hw hstate]
  exact { h with
    toStoreLaws := h.toStoreLaws.setWin (.waiting _ ws (hw ▸ List.sublist_cons_self b ws)) rfl
      (fun hl => hl.of_subset rfl id (Nat.le_refl _) hsub) rfl rfl
    queue := h.queue.drop (i := i) ((congrArg Window.queuedBatch (State.setWin_win_same i _ s)).trans hnone)
      (fun j hij => congrArg Window.queuedBatch (State.setWin_win_other i j _ s hij)) rfl
    work := h.work.setWin rfl rfl rfl hwork fun _ _ => hnone }

section
variable {answer access : Bool} {s : State} {i : WIdx}

/-- The open batch closes, and an IMMEDIATE window is queued from (R32, R92). -/
theorem State.Laws.closeBatch {id : Half} {es : List Entry} (h : s.Laws answer access)
    (ho : (s.win i).openBatch = some (.gathering id es)) (hne : es ≠ []) (hroom : (s.win i).hasRoom = true)
    (cause : CloseCause) : (s.closeBatch i id es cause).Laws answer access :=
  State.queueImmediate_lawsKept i (h.mapWin i (.close cause ho hne hroom))

/-- A batch is opened in a HELD window (R26). -/
theorem State.Laws.openNew (h : s.Laws answer access) (hheld : s.isHeldWindow i) : (s.openNew i).Laws answer access :=
  State.Laws.frame (h.mapWin i (f := fun w => { w with openBatch := some (.gathering s.store.nextId []) })
    (.openBatch rfl fun _ => hheld)) rfl rfl rfl rfl rfl rfl

theorem State.Laws.ensureOpen (h : s.Laws answer access) (hheld : s.isHeldWindow i) :
    (s.ensureOpen i).Laws answer access := by
  unfold State.ensureOpen
  split
  · exact h
  · exact h.openNew hheld

theorem State.Laws.spoil (h : s.Laws answer access) (hheld : s.isHeldWindow i) (id : Half) (cause : SpoilCause) :
    (s.spoil i id cause).Laws answer access :=
  State.countSpoiled_lawsKept i (State.record_lawsKept _ (h.mapWin i (.openBatch rfl fun _ => hheld)))

end

theorem State.ensureOpen_place (i j : WIdx) (s : State) : ((s.ensureOpen i).win j).place = (s.win j).place := by
  unfold State.ensureOpen
  split
  · rfl
  · rw [State.openNew_win]
    split
    · next hij => rw [hij]
    · rfl

/-! ### A staged write (R25 to R35) -/

/-- An accepted entry list keeps within the batch limit (R25, R27). -/
theorem stageVerdict_limit {s : State} {r : Bool} {x : StagedWrite} {old new : List Entry}
    (h : stageVerdict s r x old = .accept new) (hold : old.length ≤ x.fields.batchLimit.toNat) :
    new.length ≤ x.fields.batchLimit.toNat := by
  simp only [stageVerdict] at h
  split at h
  · cases h
    rwa [coalesce, List.length_map]
  · split at h
    · cases h
    · next hlimit =>
      split at h
      · simp only [fullVerdict] at h
        (repeat' split at h) <;> cases h
      · cases h
        rw [List.length_append, List.length_singleton]
        omega

section
variable {answer access : Bool} {s : State} {x : StagedWrite}

/-- The write is accepted: its batch takes it, and closes with it where it is a closing write. -/
theorem State.Laws.acceptWrite {r : Bool} {new : List Entry} (h : s.Laws answer access) (hu : s.upd.state.offBus)
    (hx : (s.win x.window).place.heldFields = some x.fields) (hv : verdict s r x = .accept new) :
    (s.acceptWrite x new).Laws answer access := by
  obtain ⟨id, old, ho, hroom, hstage⟩ := verdict_accept hv
  obtain ⟨hne, hgood, -⟩ := stageVerdict_accept hstage
  have hlimit := stageVerdict_limit hstage (by simpa only [ho, openEntries] using ((h.limits x.window).2 x.fields hx).1)
  have htaken : (s.mapWin x.window fun w => { w with openBatch := some (.gathering (s.openId x.window) new) }).Laws
      answer access := h.mapWin x.window (.takes _ hx (by simpa only [ho, openEntries] using hgood) hlimit)
  have hclosed : (if x.closing then
        (s.mapWin x.window fun w => { w with openBatch := some (.gathering (s.openId x.window) new) }).closeBatch
          x.window (s.openId x.window) new .closingWrite
      else s.mapWin x.window fun w => { w with openBatch := some (.gathering (s.openId x.window) new) }).Laws
      answer access := by
    split
    · next hclosing =>
      exact htaken.closeBatch (by rw [State.mapWin_win_same]) hne (by rw [State.mapWin_win_same]; exact hroom hclosing) _
    · exact htaken
  have hoff : (if x.closing then
        (s.mapWin x.window fun w => { w with openBatch := some (.gathering (s.openId x.window) new) }).closeBatch
          x.window (s.openId x.window) new .closingWrite
      else s.mapWin x.window fun w => { w with openBatch := some (.gathering (s.openId x.window) new) }).upd.state.offBus := by
    split
    · rwa [(State.closeBatch_frame _ _ _ _ _).2.2.1]
    · exact hu
  unfold State.acceptWrite
  dsimp only
  split
  · exact hclosed.answerUpdate hoff _
  · exact State.record_lawsKept _ (hclosed.answerUpdate hoff _)

/-- Handing a write of an installed HELD window to the store keeps the laws. -/
theorem State.Laws.stageWrite (h : s.Laws answer access) (hu : s.upd.state.offBus)
    (hx : (s.win x.window).place.heldFields = some x.fields) (timer : Option HoldTimer) :
    (s.stageWrite x timer).Laws answer access := by
  have hheld : s.isHeldWindow x.window := by rw [State.isHeldWindow, hx]; nofun
  have hopen := h.ensureOpen hheld
  have hx' : ((s.ensureOpen x.window).win x.window).place.heldFields = some x.fields := by rw [State.ensureOpen_place, hx]
  have hheld' : (s.ensureOpen x.window).isHeldWindow x.window := by rw [State.isHeldWindow, hx']; nofun
  have hu' : (s.ensureOpen x.window).upd.state.offBus := by rwa [(State.ensureOpen_frame _ _).2.1]
  unfold State.stageWrite
  dsimp only
  split
  · next hv => exact hopen.acceptWrite hu' hx' hv
  · exact hopen.answerUpdate hu' _
  · exact (State.emptySlot_lawsKept _ hopen).answerUpdate hu' _
  · exact (hopen.spoil hheld' _ _).answerUpdate hu' _
  · refine hopen.setUpdate hu' (.held ..) fun y hy => ?_
    cases hy
    exact hx'

theorem State.Laws.expireHold (h : s.Laws answer access) (hu : s.upd.state.offBus)
    (hx : (s.win x.window).place.heldFields = some x.fields) (f : WaitsFor) : (s.expireHold x f).Laws answer access := by
  have hheld : s.isHeldWindow x.window := by rw [State.isHeldWindow, hx]; nofun
  have hopen := h.ensureOpen hheld
  have hheld' : (s.ensureOpen x.window).isHeldWindow x.window := by rwa [State.isHeldWindow, State.ensureOpen_place]
  have hu' : (s.ensureOpen x.window).upd.state.offBus := by rwa [(State.ensureOpen_frame _ _).2.1]
  unfold State.expireHold
  dsimp only
  split
  · exact (hopen.spoil hheld' _ _).answerUpdate hu' _
  · exact hopen.answerUpdate hu' _

end

theorem State.reconsider_lawsKept : LawsKept State.reconsider := by
  intro answer access s h
  unfold State.reconsider
  split
  · next x f t hs => exact h.stageWrite (hs ▸ .held x f t) (h.write x (by rw [hs]; rfl)) _
  · exact h

theorem State.settleWrite_lawsKept : LawsKept State.settleWrite := by
  intro answer access s h
  unfold State.settleWrite
  split
  · exact State.reconsider_lawsKept h
  · exact h

end Sys2Proof.Machine
end

section
/-! SUPPORT. The requests of the two ports, time, epochs and the lines under the device law. -/

namespace Sys2Proof.Machine

/-! ### The update port (R47 to R57) -/

/-- A decode that names a HELD window gives the fields of its descriptor (R11). -/
theorem State.decodeAddr_held {s : State} {a : Word} {i : WIdx} {ua ca : Access} {tap : Tap} {f : HeldFields}
    (h : s.decodeAddr a = .held i ua ca tap f) : (s.win i).place.heldFields = some f := by
  unfold State.decodeAddr at h
  split at h
  · next j _ =>
    cases hp : (s.win j).place with
    | free => rw [hp] at h; cases h
    | faulted d => rw [hp] at h; cases h
    | active d =>
      cases hc : d.cls with
      | pass => simp only [hp, Place.decodeAs, hc] at h; cases h
      | held g =>
        simp only [hp, Place.decodeAs, hc] at h
        cases h
        simp [hp, Place.heldFields, Place.desc, hc, WindowClass.fields]
  · cases h

section
variable {answer access : Bool} {s : State}

theorem State.Laws.refuseUpdate (h : s.Laws answer access) (hu : s.upd.state.offBus) (r : BusRequest) (i : WIdx)
    (reason : DenyReason) : (s.refuseUpdate r i reason).Laws answer access :=
  (State.deny_lawsKept .update r i reason h).answerUpdate hu .fault

theorem State.Laws.forwardRead (h : s.Laws answer access) (hu : s.upd.state.offBus) (r : BusRequest) (d : Decode) (i : WIdx) :
    (s.forwardRead r d i).Laws answer access := by
  unfold State.forwardRead
  dsimp only
  split
  · exact h.answerUpdate hu _
  · exact h.placeUpdate hu _

/-- An aligned transaction keeps the laws under the decode made of its address. -/
theorem State.Laws.dispatchUpdate (h : s.Laws answer access) (hu : s.upd.state.offBus) (r : BusRequest) {d : Decode} {a : Word}
    (hd : s.decodeAddr a = d) : (s.dispatchUpdate r d).Laws answer access := by
  unfold State.dispatchUpdate
  cases d with
  | unmapped => exact h.placeUpdate hu _
  | faulted i => exact h.refuseUpdate hu r i _
  | pass i ua ca tap =>
    dsimp only
    split
    · exact h.placeUpdate hu _
    · exact h.placeUpdate hu _
    · exact h.refuseUpdate hu _ i _
    · exact h.refuseUpdate hu _ i _
  | held i ua ca tap f =>
    dsimp only
    split
    · exact h.forwardRead hu _ _ i
    · exact h.forwardRead hu _ _ i
    · exact h.stageWrite hu (State.decodeAddr_held hd) none
    · exact h.refuseUpdate hu _ i _
    · exact h.refuseUpdate hu _ i _

theorem State.Laws.takeUpdate (h : s.Laws answer access) (hu : s.upd.state.offBus) (r : BusRequest) :
    (s.takeUpdate r).Laws answer access := by
  have hcleared : { s with upd := { s.upd with answer := none } : State }.Laws answer access := { h with }
  unfold State.takeUpdate
  dsimp only
  split
  · exact hcleared.dispatchUpdate hu r rfl
  · exact (State.record_lawsKept _ hcleared).answerUpdate hu _

end

theorem State.updateReady_idle {s : State} (h : s.updateReady = true) : s.upd.state = .idle := by
  simp only [State.updateReady, Bool.and_eq_true] at h
  exact eq_of_beq h.1.1

theorem State.takeUpdates_lawsKept (l : List BusRequest) : LawsKept (State.takeUpdates l) := by
  intro answer access s h
  induction l generalizing s with
  | nil => exact h
  | cons r l ih =>
    unfold State.takeUpdates
    split
    · next hready =>
      have hwaiting : { s with upd := { s.upd with waiting := l } : State }.Laws answer access := { h with }
      exact ih (hwaiting.takeUpdate (State.updateReady_idle hready ▸ .idle) r)
    · exact h

theorem State.requestUpdate_lawsKept (r : BusRequest) : LawsKept (State.requestUpdate r) := by
  intro answer access s h
  unfold State.requestUpdate
  split
  · next hready => exact h.takeUpdate (State.updateReady_idle hready ▸ .idle) r
  · exact { h with }

/-! ### The cycle port (R118 to R126) -/

section
variable {answer access : Bool} {s : State}

theorem State.Laws.refuseCycle (h : s.Laws answer access) (hc : s.cyc.state.offBus) (r : BusRequest) (i : WIdx)
    (reason : DenyReason) : (s.refuseCycle r i reason).Laws answer access :=
  (State.deny_lawsKept .cycle r i reason h).answerCycle hc .fault

theorem State.Laws.readHeldWindow (h : s.Laws answer access) (hc : s.cyc.state.offBus) (r : BusRequest) {d : Decode} {i : WIdx}
    (hd : d.heldWindow = some i) : (s.readHeldWindow r d i).Laws answer access := by
  unfold State.readHeldWindow
  split
  · next hi => exact h.holdRead hc hd hi
  · exact h.placeCycle hc _

theorem State.Laws.dispatchCycle (h : s.Laws answer access) (hc : s.cyc.state.offBus) (r : BusRequest) (d : Decode) :
    (s.dispatchCycle r d).Laws answer access := by
  unfold State.dispatchCycle
  cases d with
  | unmapped => exact h.placeCycle hc _
  | faulted i => exact h.refuseCycle hc r i _
  | pass i ua ca tap =>
    dsimp only
    split
    · exact h.placeCycle hc _
    · exact h.placeCycle hc _
    · exact h.refuseCycle hc _ i _
    · exact h.refuseCycle hc _ i _
  | held i ua ca tap f =>
    dsimp only
    split
    · exact h.refuseCycle hc _ i _
    · exact h.refuseCycle hc _ i _
    · exact h.readHeldWindow hc _ rfl
    · exact h.readHeldWindow hc _ rfl

theorem State.Laws.takeCycle (h : s.Laws answer access) (hc : s.cyc.state.offBus) (r : BusRequest) :
    (s.takeCycle r).Laws answer access := by
  have hcleared : { s with cyc := { s.cyc with answer := none } : State }.Laws answer access := { h with }
  unfold State.takeCycle
  dsimp only
  split
  · exact hcleared.dispatchCycle hc r _
  · exact (State.record_lawsKept _ hcleared).answerCycle hc _

end

theorem State.cycleReady_idle {s : State} (h : s.cycleReady = true) : s.cyc.state = .idle := by
  simp only [State.cycleReady, Bool.and_eq_true] at h
  exact eq_of_beq h.1.1

theorem State.takeCycles_lawsKept (l : List BusRequest) : LawsKept (State.takeCycles l) := by
  intro answer access s h
  induction l generalizing s with
  | nil => exact h
  | cons r l ih =>
    unfold State.takeCycles
    split
    · next hready =>
      have hwaiting : { s with cyc := { s.cyc with waiting := l } : State }.Laws answer access := { h with }
      exact ih (hwaiting.takeCycle (State.cycleReady_idle hready ▸ .idle) r)
    · exact h

theorem State.requestCycle_lawsKept (r : BusRequest) : LawsKept (State.requestCycle r) := by
  intro answer access s h
  unfold State.requestCycle
  split
  · next hready => exact h.takeCycle (State.cycleReady_idle hready ▸ .idle) r
  · exact { h with }

/-! ### Time and the delivery of epochs (R67 to R76) -/

theorem UpdateState.elapse_frame (n : Nat) (u : UpdateState) :
    (u.elapse n).heldWrite = u.heldWrite ∧ (u.elapse n).waits = u.waits ∧ (u.elapse n).under = u.under := by
  cases u <;> exact ⟨rfl, rfl, rfl⟩

/-- Time goes on at an access without changing whose it is. -/
theorem Arbiter.onPort_elapse (n : Nat) (a : Arbiter) (who : Requester) :
    { a with port := a.port.map (PortAccess.elapse n) : Arbiter }.onPort who = a.onPort who := by
  unfold Arbiter.onPort
  cases a.port <;> rfl

theorem State.elapse_lawsKept (n : Nat) : LawsKept (State.elapse n) := by
  intro answer access s h
  obtain ⟨hheld, hwaits, hunder⟩ := s.upd.state.elapse_frame n
  have hport := Arbiter.onPort_elapse n s.arb
  unfold State.elapse
  split
  · exact h
  · exact { h with
      write := fun x hx => h.write x (hheld ▸ hx)
      update := ⟨h.update.1.trans hwaits.symm, (hport .up).trans (h.update.2.trans hunder.symm)⟩
      cycle := ⟨h.cycle.1, (hport .cp).trans h.cycle.2⟩
      commit := by rw [hport]; exact h.commit
      probe := by rw [hport]; exact h.probe }

theorem State.setEpoch_lawsKept (e : State → EpochUnit) : LawsKept fun s => { s with epoch := e s } := fun _ _ _ h => { h with }

theorem State.epochClose_lawsKept (st : Stamp) (i : WIdx) : LawsKept (State.epochClose st i) := by
  intro answer access s h
  unfold State.epochClose
  split
  · exact h
  · exact h
  · next id e es ho =>
    split
    · next hroom => exact h.mapWin i (.close .epoch ho (List.cons_ne_nil e es) hroom)
    · exact State.record_lawsKept _ h
  · exact State.emptySlot_lawsKept i h

theorem State.Laws.epochQueue {answer access : Bool} {s : State} {i : WIdx} (h : s.Laws answer access)
    (hact : (s.win i).place.activeHeld ≠ none) (st : Stamp) : (s.epochQueue st i).Laws answer access := by
  unfold State.epochQueue
  split
  · next hq => exact h.queueFrom hact hq
  · split
    · exact State.record_lawsKept _ (State.countOverrun_lawsKept i h)
    · exact h

theorem State.epochClose_place (st : Stamp) (i : WIdx) (s : State) : ((s.epochClose st i).win i).place = (s.win i).place := by
  unfold State.epochClose
  split
  · rfl
  · rfl
  · split
    · rw [State.mapWin_win_same]; rfl
    · rfl
  · exact (congrArg Window.place (State.mapWin_win_same i (fun w => { w with openBatch := none }) s) :)

theorem State.deliverTo_lawsKept (st : Stamp) (i : WIdx) : LawsKept (State.deliverTo st · i) := by
  intro answer access s h
  change (State.deliverTo st s i).Laws answer access
  unfold State.deliverTo
  split
  · next f hact =>
    have hne : (s.win i).place.activeHeld ≠ none := by simp [hact]
    split
    · split
      · exact (State.epochClose_lawsKept st i h).epochQueue (by rwa [State.epochClose_place]) st
      · exact h.epochQueue hne st
    · exact h
  · exact h

theorem State.deliver_lawsKept (st : Stamp) : LawsKept (State.deliver st) := .foldl (fun i => State.deliverTo_lawsKept st i) _

theorem State.giveEpoch_lawsKept (src : EpochSource) : LawsKept (State.giveEpoch src) := fun _ _ _ h =>
  State.deliver_lawsKept _ (State.setEpoch_lawsKept (fun s => s.epoch.bump src) h)

theorem State.timerEpoch_lawsKept : LawsKept State.timerEpoch := fun _ _ _ h =>
  State.giveEpoch_lawsKept .timer (State.setEpoch_lawsKept (fun s => s.epoch.restart) h)

theorem State.flywheelEpoch_lawsKept : LawsKept State.flywheelEpoch := fun _ _ _ h =>
  State.setEpoch_lawsKept (fun s => { s.epoch with flywheel := satInc s.epoch.flywheel })
    (State.record_lawsKept _ (State.timerEpoch_lawsKept h))

theorem State.setQualifier_lawsKept (line : EpochLine) (q : QualifierState) : LawsKept (State.setQualifier line q) := by
  intro answer access s h
  cases line <;> exact { h with }

theorem State.setLevel_lawsKept (line : EpochLine) (high : Bool) : LawsKept (State.setLevel line high) := by
  intro answer access s h
  cases line <;> exact { h with }

theorem State.acceptPulse_lawsKept (line : EpochLine) : LawsKept (State.acceptPulse line) := by
  intro answer access s h
  cases line with
  | a =>
    have hgiven := State.giveEpoch_lawsKept .lineA h
    unfold State.acceptPulse
    dsimp only
    split
    · exact State.giveEpoch_lawsKept .timer (State.setEpoch_lawsKept (fun s => s.epoch.restart) hgiven)
    · exact hgiven
  | b => exact State.giveEpoch_lawsKept .lineB h

theorem State.lineInReset_lawsKept (line : EpochLine) (high : Bool) : LawsKept (State.lineInReset line high) :=
  (State.setQualifier_lawsKept line _).comp (State.setLevel_lawsKept line high)

theorem State.lineRises_lawsKept (line : EpochLine) : LawsKept (State.lineRises line) := by
  intro answer access s h
  unfold State.lineRises
  dsimp only
  split
  · exact h
  · have hhigh := State.setLevel_lawsKept line true h
    split
    · exact State.acceptPulse_lawsKept line (State.setQualifier_lawsKept line _ hhigh)
    · exact State.setQualifier_lawsKept line _ hhigh

theorem State.acceptDue_lawsKept (line : EpochLine) : LawsKept (State.acceptDue line) := by
  intro answer access s h
  unfold State.acceptDue
  split
  · exact State.acceptPulse_lawsKept line (State.setQualifier_lawsKept line _ h)
  · exact h

theorem State.lineFalls_lawsKept (line : EpochLine) : LawsKept (State.lineFalls line) := by
  intro answer access s h
  unfold State.lineFalls
  split
  · exact State.setQualifier_lawsKept line _ (State.setLevel_lawsKept line _ (State.acceptDue_lawsKept line h))
  · exact h

theorem State.lineQualifies_lawsKept (line : EpochLine) : LawsKept (State.lineQualifies line) := by
  intro answer access s h
  unfold State.lineQualifies
  split
  · exact State.acceptPulse_lawsKept line (State.setQualifier_lawsKept line _ (State.elapse_lawsKept _ h))
  · exact h

theorem State.periodEnds_lawsKept : LawsKept State.periodEnds := by
  intro answer access s h
  unfold State.periodEnds
  split
  · exact h
  · exact State.timerEpoch_lawsKept (State.elapse_lawsKept _ h)
  · exact State.flywheelEpoch_lawsKept (State.elapse_lawsKept _ h)

theorem State.idleRunsOut_lawsKept : LawsKept State.idleRunsOut := by
  intro answer access s h
  unfold State.idleRunsOut
  split
  · exact h
  · exact { State.elapse_lawsKept _ h with }

/-- The hold runs out on the state that the passing of its time leaves (R35). -/
theorem State.holdRunsOut_lawsKept : LawsKept State.holdRunsOut := by
  intro answer access s h
  unfold State.holdRunsOut
  split
  · next x f t hs =>
    have helapsed := State.elapse_lawsKept (t.limit.toNat - t.elapsed) h
    have hwin : (s.elapse (t.limit.toNat - t.elapsed)).windows = s.windows := (s.elapse_frame _).1
    refine helapsed.expireHold ?_ ?_ f
    · have hoff : s.upd.state.offBus := hs ▸ .held x f t
      unfold State.elapse
      split
      · exact hoff
      · obtain ⟨-, hwaits, hunder⟩ := s.upd.state.elapse_frame (t.limit.toNat - t.elapsed)
        exact ⟨hwaits.trans hoff.1, hunder.trans hoff.2⟩
    · rw [State.win, hwin]
      exact h.write x (by rw [hs]; rfl)
  · exact h

end Sys2Proof.Machine
end

section
/-! SUPPORT. The Commit Engine, the memory port and its arbiter under the device law: a start, the end of each access, a halt, a resumed
rollback. An engine at work whose access has ended owes its next one until it places it or has nothing left to do. -/

namespace Sys2Proof.Machine

/-! ### One window and the engine replaced -/

section
variable {s : State} {i : WIdx} {w : Window}

theorem State.replaced_win_other (e : Engine) (r : ReportUnit) {j : WIdx} (hij : i ≠ j) :
    (s.replaced i w e r).win j = s.win j :=
  State.setWin_win_other i j w s hij

theorem State.win_congr_of_replaced {α : Type} (P : Window → α) (e : Engine) (r : ReportUnit) (h : P w = P (s.win i))
    (j : WIdx) : P ((s.replaced i w e r).win j) = P (s.win j) :=
  State.win_congr_of_setWin P (i := i) (w := w) rfl h j

theorem State.StoreLaws.replaced (h : s.StoreLaws) (e : Engine) (r : ReportUnit) (hw : (s.win i).Tame w)
    (hp : w.place.heldFields = (s.win i).place.heldFields) (hlimits : (s.win i).withinLimits → w.withinLimits) :
    (s.replaced i w e r).StoreLaws :=
  h.setWin hw hp hlimits rfl rfl

end

/-! ### The held cycle read (R124 to R126) -/

section
variable {answer access : Bool} {s : State} {i : WIdx}

/-- The waiting read of the window that has become in hand is held. -/
theorem State.Laws.holdCycleRead (h : s.Laws answer access) (hi : s.inHandWindow = some i) :
    (s.holdCycleRead i).Laws answer access := by
  unfold State.holdCycleRead
  split
  · next t hs =>
    split
    · next ht =>
      refine { h with cycle := ⟨rfl, h.cycle.2.trans (by rw [hs]; rfl)⟩, read := fun u hu => ?_ }
      obtain rfl : t = u := Option.some.inj hu
      exact ⟨by rw [ht]; rfl, ht.trans hi.symm⟩
    · exact h
  · exact h

theorem State.releaseCycleRead_lawsKept (i : WIdx) : LawsKept (State.releaseCycleRead i) := by
  intro answer access s h
  unfold State.releaseCycleRead
  split
  · next t hs =>
    split
    · exact h.placeCycle (hs ▸ .held t) t
    · exact h
  · exact h

theorem State.faultCycleRead_lawsKept (i : WIdx) : LawsKept (State.faultCycleRead i) := by
  intro answer access s h
  unfold State.faultCycleRead
  split
  · next t hs =>
    split
    · exact h.answerCycle (hs ▸ .held t) .fault
    · exact h
  · exact h

/-- Released from the window in hand, no read is held. -/
theorem State.releaseCycleRead_heldRead (h : s.heldReadLaw) (hi : s.inHandWindow = some i) :
    (s.releaseCycleRead i).cyc.state.heldRead = none := by
  unfold State.releaseCycleRead
  cases hs : s.cyc.state with
  | held t =>
    have ht := (h t (by rw [hs]; rfl)).2
    simp [ht, hi, CycleState.heldRead]
  | idle => simp [hs, CycleState.heldRead]
  | requested t => simp [hs, CycleState.heldRead]
  | atMemory t => simp [hs, CycleState.heldRead]
  | draining t => simp [hs, CycleState.heldRead]

theorem State.faultCycleRead_heldRead (h : s.heldReadLaw) (hi : s.inHandWindow = some i) :
    (s.faultCycleRead i).cyc.state.heldRead = none := by
  unfold State.faultCycleRead
  cases hs : s.cyc.state with
  | held t =>
    have ht := (h t (by rw [hs]; rfl)).2
    simp [ht, hi, CycleState.heldRead]
  | idle => simp [hs, CycleState.heldRead]
  | requested t => simp [hs, CycleState.heldRead]
  | atMemory t => simp [hs, CycleState.heldRead]
  | draining t => simp [hs, CycleState.heldRead]

/-! ### The engine's access -/

/-- An access that is due finds no other of the engine. -/
theorem State.Laws.access_due (h : s.Laws answer true) :
    s.arb.ce = none ∧ s.arb.onPort .ce = none ∧ s.engine.atWork = true := by
  have hcommit := h.commit
  have hle := Bool.toNat_le s.engine.atWork
  refine ⟨?_, ?_, ?_⟩
  · cases hce : s.arb.ce with
    | none => rfl
    | some r => simp only [hce, Option.isSome_some, Bool.toNat_true] at hcommit; omega
  · cases hport : s.arb.onPort .ce with
    | none => rfl
    | some r => simp only [hport, Option.isSome_some, Bool.toNat_true] at hcommit; omega
  · cases hwork : s.engine.atWork with
    | true => rfl
    | false => simp only [hwork, Bool.toNat_true, Bool.toNat_false] at hcommit; omega

theorem State.Laws.placeCommit (h : s.Laws answer true) (r : BusRequest) : (s.placeCommit r).Laws answer false := by
  obtain ⟨-, hport, hwork⟩ := h.access_due
  refine { h with commit := ?_ }
  change 1 + (s.arb.onPort .ce).isSome.toNat + 0 = s.engine.atWork.toNat
  rw [hport, hwork]
  rfl

theorem Arbiter.onPort_owner {a : Arbiter} {who : Requester} (h : a.port.map (·.owner) = some who) (other : Requester) :
    (a.onPort other).isSome = decide (other = who) := by
  obtain ⟨p, hport, howner⟩ := Option.map_eq_some_iff.1 h
  simp only [Arbiter.onPort, hport, howner]
  by_cases hwho : other = who
  · simp [hwho]
  · simp [hwho, Ne.symm hwho]

theorem Arbiter.onPort_other {a : Arbiter} {who other : Requester} (h : a.port.map (·.owner) = some who) (hne : other ≠ who) :
    a.onPort other = none := by
  simpa [hne] using Arbiter.onPort_owner h other

/-- The engine's access has ended: the port is FREE, and the next access is due. -/
theorem State.Laws.portFreed_ce (h : s.Laws answer false) (hce : s.arb.port.map (·.owner) = some .ce) :
    s.portFreed.Laws answer true := by
  have hport : (s.arb.onPort .ce).isSome = true := by simpa using Arbiter.onPort_owner hce .ce
  have hcommit := h.commit
  rw [hport] at hcommit
  have hother : ∀ who, who ≠ .ce → s.arb.onPort who = none := fun _ => Arbiter.onPort_other hce
  exact { h with
    update := ⟨h.update.1, (hother .up (by decide)).symm.trans h.update.2⟩
    cycle := ⟨h.cycle.1, (hother .cp (by decide)).symm.trans h.cycle.2⟩
    commit := hcommit
    probe := by
      have hprobe := h.probe
      rw [hother .sl (by decide)] at hprobe
      exact hprobe }

end

/-! ### What the engine has in hand -/

theorem State.workLaw.of_idle {s : State} (hs : s.engine.state = .idle) (h : s.idleLaw) : s.workLaw :=
  ⟨fun _ => h, by simp [hs], by simp [hs], by simp [hs]⟩

theorem State.workLaw.of_committing {s : State} (hs : s.engine.state = .committing) (h : s.committingLaw) : s.workLaw :=
  ⟨by simp [hs], fun _ => h, by simp [hs], by simp [hs]⟩

theorem State.workLaw.of_rollingBack {s : State} (hs : s.engine.state = .rollingBack) (h : s.rollingBackLaw) : s.workLaw :=
  ⟨by simp [hs], by simp [hs], fun _ => h, by simp [hs]⟩

theorem State.workLaw.of_halted {s : State} (hs : s.engine.state = .halted) (h : s.haltedLaw) : s.workLaw :=
  ⟨by simp [hs], by simp [hs], by simp [hs], fun _ => h⟩

theorem Engine.atWork_iff (e : Engine) : e.atWork = true ↔ e.state = .committing ∨ e.state = .rollingBack := by
  simp [Engine.atWork]

section
variable {answer access : Bool} {s t : State}

/-- While the engine is at work no window is FAULTED. -/
theorem State.Laws.noneFaulted (h : s.Laws answer access) (hwork : s.engine.atWork = true) : s.noneFaulted := by
  obtain ⟨-, hcommitting, hrolling, -⟩ := h.work
  rcases (Engine.atWork_iff _).1 hwork with hs | hs
  · exact (hcommitting hs).1
  · exact (hrolling hs).1

/-- The batch in hand is the only one at work, and its window is the one in hand. -/
theorem State.Laws.inHand (h : s.Laws answer access) {x : BatchInHand} (hwork : s.engine.atWork = true)
    (hx : s.engine.inHand = some x) : s.inHandWindow = some x.window ∧ s.atWorkOnly (some x.window) ∧
      ∃ b, (s.win x.window).batchAtWork = some b ∧ (b.state = .committing ↔ s.engine.state = .committing) := by
  obtain ⟨-, hcommitting, hrolling, -⟩ := h.work
  rcases (Engine.atWork_iff _).1 hwork with hs | hs
  · obtain ⟨-, -, y, hy, ⟨honly, hhand⟩, -⟩ := hcommitting hs
    obtain rfl : x = y := Option.some.inj (hx.symm.trans hy)
    obtain ⟨b, hb, hid⟩ := Option.map_eq_some_iff.1 hhand
    exact ⟨by simp [State.inHandWindow, hs, hx], honly, b, hb, by simp [(Prod.mk.inj hid).1, hs]⟩
  · obtain ⟨-, -, -, -, c, -, hin, -⟩ := hrolling hs
    obtain ⟨-, -, honly, hhand⟩ := hin x hx
    obtain ⟨b, hb, hid⟩ := Option.map_eq_some_iff.1 hhand
    exact ⟨by simp [State.inHandWindow, hs, hx], honly, b, hb, by simp [(Prod.mk.inj hid).1, hs]⟩

/-- The engine has nothing left to do: every batch at work has left, and no cycle read is held. -/
theorem State.Laws.quiet {answer' : Bool} (h : s.Laws answer true) (hstore : t.StoreLaws) (he : t.engine = s.engine.quiet)
    (hdone : ∀ i, (t.win i).batchAtWork = none) (hplace : ∀ i, (t.win i).place = (s.win i).place)
    (hqueued : ∀ i, (t.win i).queuedBatch = (s.win i).queuedBatch) (hu : t.upd = s.upd) (hc : t.cyc = s.cyc)
    (ha : t.arb = s.arb) (hs : t.svc = s.svc) (hread : s.cyc.state.heldRead = none)
    (hanswer : answer.toNat + s.engine.resumed.toNat = answer'.toNat) : t.Laws answer' false := by
  obtain ⟨hce, hport, hwork⟩ := h.access_due
  have hnone := h.noneFaulted hwork
  exact { hstore with
    slot := by
      have hslot := h.slot
      have hquiet : t.engine.resumed = false := by rw [he]; rfl
      have hreset : t.engine.fullReset = s.engine.fullReset := by rw [he]; rfl
      rw [hquiet, hreset, hs, Bool.toNat_false]
      omega
    collect := h.collect.congr hs
    queue := h.queue.congr (by rw [he]; rfl) hqueued
    work := .of_idle (by rw [he]; rfl) ⟨by rw [he]; rfl, by rw [he]; rfl, by rw [he]; rfl, by rw [he]; rfl,
      fun i _ => hdone i, fun i => by rw [hplace]; exact hnone i⟩
    update := by rw [ha, hu]; exact h.update
    cycle := by rw [ha, hc]; exact h.cycle
    commit := by rw [ha, he, hce, hport]; rfl
    probe := by rw [ha, hs]; exact h.probe
    read := .of_none (by rw [hc, hread]) }

theorem State.releaseCycleRead_replaced (j i : WIdx) (w : Window) (e : Engine) (r : ReportUnit) (s : State) :
    (s.replaced i w e r).releaseCycleRead j = (s.releaseCycleRead j).replaced i w e r := by
  rw [State.releaseCycleRead_congr (s := s) (t := s.replaced i w e r) j rfl rfl,
    State.releaseCycleRead_congr (s := s) (t := s) j rfl rfl]
  rfl

/-- The fault of a held read reads and changes the Cycle Port Unit alone. -/
theorem State.faultCycleRead_congr {s t : State} (i : WIdx) (hcyc : t.cyc = s.cyc) :
    t.faultCycleRead i = { t with cyc := (s.faultCycleRead i).cyc } := by
  unfold State.faultCycleRead
  rw [hcyc]
  split
  · split
    · simp [State.answerCycle, hcyc]
    · simp [← hcyc]
  · simp [← hcyc]

theorem State.Laws.batchLeaves (h : s.Laws answer true) {x : BatchInHand} (hx : s.engine.inHand = some x)
    (hread : s.cyc.state.heldRead = none) {b : WaitBatch} {ws : List WaitBatch} (hw : (s.win x.window).waiting = b :: ws)
    (hb : b.state = .committing ∨ b.state = .rollingBack) (hclosed : allClosed ws) (counters : WindowCounters)
    (r : ReportUnit) :
    (s.replaced x.window { s.win x.window with waiting := ws, counters := counters } s.engine.quiet r).Laws answer false := by
  obtain ⟨-, -, hwork⟩ := h.access_due
  obtain ⟨-, honly, -⟩ := h.inHand hwork hx
  have hsub : ws.Sublist (s.win x.window).waiting := hw ▸ List.sublist_cons_self b ws
  have hnotQueued : b.state ≠ .queued := by rcases hb with hb | hb <;> simp [hb]
  have hnone : (s.win x.window).queuedBatch = none := Window.queuedBatch_of_atWork hw hnotQueued hclosed
  refine h.quiet ?_ rfl (fun j => ?_) (State.win_congr_of_replaced Window.place _ _ rfl)
    (State.win_congr_of_replaced Window.queuedBatch _ _ ((Window.queuedBatch_of_closed hclosed).trans hnone.symm))
    rfl rfl rfl rfl hread (by simp [Engine.resumed, hx])
  · exact h.toStoreLaws.replaced _ _ (.of_sublist (fun _ hd => hd) (.refl _) hsub) rfl
      (fun hl => hl.of_subset rfl id (Nat.le_refl _) hsub.subset)
  · by_cases hj : x.window = j
    · subst hj
      rw [State.replaced_win]
      exact Window.batchAtWork_of_closed hclosed
    · rw [State.replaced_win_other _ _ hj]
      exact honly j fun hsome => hj (Option.some.inj hsome).symm

/-- The end of a commit or of a rollback with its batch in hand (R90, R103): the batch leaves, a held read is released, and an IMMEDIATE
window is queued from. -/
theorem State.Laws.batchEnds (h : s.Laws answer true) {x : BatchInHand} (hx : s.engine.inHand = some x) {b : WaitBatch}
    {ws : List WaitBatch} (hw : (s.win x.window).waiting = b :: ws)
    (hb : b.state = .committing ∨ b.state = .rollingBack) (hclosed : allClosed ws) (counters : WindowCounters)
    (r : ReportUnit) :
    (State.queueImmediate x.window (State.releaseCycleRead x.window
      (s.replaced x.window { s.win x.window with waiting := ws, counters := counters } s.engine.quiet r))).Laws
      answer false := by
  obtain ⟨-, hwindows, -, -, -, hengine, -⟩ := State.releaseCycleRead_frame x.window s
  have hwin : (s.releaseCycleRead x.window).win x.window = s.win x.window := by rw [State.win, State.win, hwindows]
  have hfree := State.releaseCycleRead_heldRead h.read (h.inHand h.access_due.2.2 hx).1
  have hleft := (State.releaseCycleRead_lawsKept x.window h).batchLeaves (hengine ▸ hx) hfree (hwin ▸ hw) hb hclosed counters r
  rw [hwin, hengine] at hleft
  rw [State.releaseCycleRead_replaced]
  exact State.queueImmediate_lawsKept _ hleft

/-! ### A commit (R84 to R91) -/

/-- An IDLE engine holds no cycle read. -/
theorem State.heldReadLaw.none_of_no_hand {s : State} (h : s.heldReadLaw) (hi : s.inHandWindow = none) :
    s.cyc.state.heldRead = none := by
  cases hread : s.cyc.state.heldRead with
  | none => rfl
  | some t =>
    obtain ⟨hsome, heq⟩ := h t hread
    rw [heq, hi] at hsome
    cases hsome

/-- The head of the queue has become the batch in hand; the engine owes its first access (R84, R85). -/
theorem State.Laws.started {answer : Bool} {s : State} {i : WIdx} {id : Half} {rest : List (WIdx × Half)} {b : WaitBatch}
    {ws : List WaitBatch} (h : s.Laws answer false) (hidle : s.engine.state = .idle) (hq : s.engine.queue = (i, id) :: rest)
    (hw : (s.win i).waiting = b :: ws) (hb : b.state = .queued) (hid : b.id = id) (hclosed : allClosed ws)
    (hne : b.entries ≠ []) :
    (s.replaced i { s.win i with waiting := { b with state := .committing } :: ws }
      { s.engine with state := .committing, queue := rest, inHand := some ⟨i, id, 0⟩, cursor := some ⟨0, .readOld⟩ }
      s.rep).Laws answer true := by
  obtain ⟨hin, hcursor, hundo, hcontext, honly, hnone⟩ := h.work.1 hidle
  have hrestate : (s.win i).Tame { s.win i with waiting := { b with state := .committing } :: ws } := by
    rw [← Window.restate_head hw hb (by decide) hclosed]
    exact .restate _ _ _ (by decide) (by decide)
  have hrest : rest = s.engine.queue.filter fun q => q.1 != i := by
    have hnodup := h.queue.1
    rw [hq, List.map_cons, List.nodup_cons] at hnodup
    rw [hq, List.filter_cons_of_neg (by simp), List.filter_eq_self.2]
    intro q hmem
    have hin : q.1 ∈ rest.map (·.1) := List.mem_map_of_mem hmem
    have hne : q.1 ≠ i := fun heq => hnodup.1 (heq ▸ hin)
    simpa using hne
  have hslot := h.slot
  have hcommit := h.commit
  simp only [Engine.resumed, hidle] at hslot
  simp only [Engine.atWork, hidle] at hcommit
  exact { h.toStoreLaws.replaced _ _ hrestate rfl (fun hl => hl.restates rfl rfl (by simp [hw])) with
    slot := hslot
    collect := h.collect
    queue := h.queue.drop (i := i) (by
        rw [State.replaced_win]
        exact Window.queuedBatch_of_atWork rfl (by simp) hclosed)
      (fun j hij => by rw [State.replaced_win_other _ _ hij]) hrest
    work := .of_committing rfl ⟨fun j => (State.win_congr_of_replaced (·.place.isFaulted) _ _ (by rfl) j).trans (hnone j), hcontext,
      ⟨i, id, 0⟩, rfl, ⟨fun j hj => by
        rw [State.replaced_win_other _ _ fun hij => hj (congrArg some hij.symm)]
        exact honly j nofun, by
        rw [State.replaced_win, Window.batchAtWork_head rfl (.inl rfl), ← hid]
        rfl⟩,
      ⟨0, .readOld⟩, rfl, { b with state := .committing }, by rw [State.replaced_win, Window.batchAtWork_head rfl (.inl rfl)]; rfl,
      List.length_pos_iff.2 hne, rfl, by simp [State.replaced, hundo]⟩
    update := h.update
    cycle := h.cycle
    commit := by
      change s.arb.ce.isSome.toNat + (s.arb.onPort .ce).isSome.toNat + 1 = 1
      exact congrArg (· + 1) hcommit
    probe := h.probe
    read := .of_none (h.read.none_of_no_hand (by simp [State.inHandWindow, hidle])) }

/-- A commit start that is due, its access placed at the end (R84, R85). -/
theorem State.startCommit_lawsKept {answer : Bool} {s : State} (h : s.Laws answer false) : s.startCommit.Laws answer false := by
  cases hdue : s.commitDue with
  | false => rwa [State.startCommit_of_notDue hdue]
  | true =>
  obtain ⟨hidle, -, -, hne⟩ := s.commitDue_iff.1 hdue
  cases hq : s.engine.queue with
  | nil => exact absurd hq hne
  | cons q rest =>
  obtain ⟨i, id⟩ := q
  obtain ⟨hnodup, hmem, -⟩ := h.queue
  obtain ⟨b, hb, hid⟩ := Option.map_eq_some_iff.1 (hmem (i, id) (by rw [hq]; exact List.mem_cons_self ..))
  obtain ⟨ws, hw, hstate, hclosed⟩ := (h.batches i).head_of_queued hb
  cases hes : b.entries with
  | nil =>
    have hgood := ((h.batches i).2.2.1 b (by rw [hw]; exact List.mem_cons_self ..)).2.1
    exact absurd hes hgood
  | cons e es =>
  rw [State.startCommit_of_due hdue hq hw hstate hclosed hes]
  have hstarted := h.started hidle hq hw hstate hid hclosed (by simp [hes])
  exact State.Laws.placeCommit (State.Laws.holdCycleRead hstarted rfl) _

end

end Sys2Proof.Machine
end

section
/-! SUPPORT. The steps of a commit, the failure of an access, and the steps of a rollback under the device law. -/

namespace Sys2Proof.Machine

section
variable {answer access : Bool} {s : State}

theorem State.Laws.of_eq {t : State} (e : s = t) (h : t.Laws answer access) : s.Laws answer access := e ▸ h

/-- The engine changes what it knows of the work in hand. -/
theorem State.Laws.setEngine (h : s.Laws answer access) {e : Engine} (hqueue : e.queue = s.engine.queue)
    (hresumed : e.resumed = s.engine.resumed) (hreset : e.fullReset = s.engine.fullReset) (hatWork : e.atWork = s.engine.atWork)
    (hin : { s with engine := e : State }.inHandWindow = s.inHandWindow) (hwork : { s with engine := e : State }.workLaw) :
    { s with engine := e : State }.Laws answer access :=
  { h with
    slot := by
      change s.svc.probe.isSome.toNat + e.resumed.toNat + e.fullReset.toNat + answer.toNat = s.svc.slot.isWorking.toNat
      rw [hresumed, hreset]
      exact h.slot
    queue := h.queue.congr hqueue fun _ => rfl
    work := hwork
    commit := h.commit.trans (congrArg Bool.toNat hatWork).symm
    read := fun t ht => by
      rw [hin]
      exact h.read t ht }

/-! ### The steps of a commit (R86, R87, R90) -/

variable {x : BatchInHand} {c : Cursor} {b : WaitBatch} {e : Entry} {g : FaultContext}

/-- The old word is in the undo log, and the write-new access is owed. -/
theorem State.Laws.readOldDone (h : s.Laws answer true) (hs : s.engine.state = .committing) (hx : s.engine.inHand = some x)
    (hc : s.engine.cursor = some c) (hb : (s.win x.window).batchAtWork = some b) (he : b.entries[c.index]? = some e)
    (hstep : c.step = .readOld) (old : Quad Byte) : (s.readOldDone e c old).Laws answer false := by
  obtain ⟨hnone, hcontext, x', hx', hhand, c', hc', b', hb', hlen, hwritten, hundo⟩ := h.work.2.1 hs
  obtain rfl : x = x' := Option.some.inj (hx.symm.trans hx')
  obtain rfl : c = c' := Option.some.inj (hc.symm.trans hc')
  obtain rfl : b = b' := Option.some.inj (hb.symm.trans hb')
  have hlog : (s.engine.undo ++ [⟨e.addr, old, e.lanes.map Option.isSome⟩] : List UndoRecord).map (·.addr) =
      (b.entries.take (c.index + 1)).map (·.addr) := by
    rw [List.map_append, hundo, hstep, List.take_add_one, he]
    simp
  unfold State.readOldDone
  refine State.Laws.placeCommit ?_ _
  refine h.setEngine rfl rfl rfl rfl rfl ?_
  exact .of_committing hs ⟨hnone, hcontext, x, hx, hhand, { c with step := .writeNew }, rfl, b, hb, hlen, hwritten, hlog⟩

/-- The entry is counted, and the read-old access of the next one is owed, or the commit completes. -/
theorem State.Laws.writeNewDone (h : s.Laws answer true) (hs : s.engine.state = .committing) (hx : s.engine.inHand = some x)
    (hc : s.engine.cursor = some c) (hb : (s.win x.window).batchAtWork = some b) (hstep : c.step = .writeNew) :
    (s.writeNewDone x b c).Laws answer false := by
  cases hnext : b.entries[c.index + 1]? with
  | none =>
    obtain ⟨ws, hw, -, hclosed⟩ := (h.batches x.window).head_of_atWork hb
    obtain ⟨-, -, b', hb', hstate⟩ := h.inHand h.access_due.2.2 hx
    obtain rfl : b = b' := Option.some.inj (hb.symm.trans hb')
    have hcommitting := hstate.2 hs
    rw [State.writeNewDone_last hw hcommitting hnext, State.completeCommit_eq hw hcommitting]
    exact h.batchEnds hx hw (.inl hcommitting) hclosed _ _
  | some e2 =>
    obtain ⟨hnone, hcontext, x', hx', hhand, c', hc', b', hb', hlen, hwritten, hundo⟩ := h.work.2.1 hs
    obtain rfl : x = x' := Option.some.inj (hx.symm.trans hx')
    obtain rfl : c = c' := Option.some.inj (hc.symm.trans hc')
    obtain rfl : b = b' := Option.some.inj (hb.symm.trans hb')
    have hnextLen : c.index + 1 < b.entries.length := (List.getElem?_eq_some_iff.1 hnext).1
    rw [State.writeNewDone_next hnext]
    refine State.Laws.placeCommit ?_ _
    refine h.setEngine rfl ?_ rfl rfl ?_ ?_
    · simp [Engine.resumed, hs]
    · simp [State.inHandWindow, hs, hx]
    · rw [hstep] at hundo
      exact .of_committing hs ⟨hnone, hcontext, { x with written := x.written + 1 }, rfl, hhand, ⟨c.index + 1, .readOld⟩, rfl, b,
        hb, hnextLen, congrArg (· + 1) hwritten, hundo⟩

/-! ### Rollback (R88, R100 to R103, R113) -/

/-- An entry list keeps within the undo log (R7, R89). -/
theorem State.Laws.entries_length (h : s.Laws answer access) {i : WIdx} (hb : b ∈ (s.win i).waiting) : b.entries.length ≤ 64 := by
  obtain ⟨hclass, hlimit⟩ := h.limits i
  cases hf : (s.win i).place.heldFields with
  | none =>
    rw [(hclass hf).2] at hb
    cases hb
  | some f =>
    obtain ⟨d, hd, hfields⟩ := Option.bind_eq_some_iff.1 hf
    obtain ⟨-, hle, -⟩ := (h.windows.1 i d hd).2 f hfields
    exact Nat.le_trans ((hlimit f hf).2 b hb) hle

/-- The batch and the engine are ROLLING_BACK, and the first write of the rollback is owed. -/
theorem State.Laws.failed {ws : List WaitBatch} (h : s.Laws answer true) (hs : s.engine.state = .committing)
    (hx : s.engine.inHand = some x) (hb : (s.win x.window).batchAtWork = some b) (hw : (s.win x.window).waiting = b :: ws)
    (hclosed : allClosed ws) (hne : s.engine.undo ≠ []) (e : Entry) (c : Cursor) :
    (s.replaced x.window { s.win x.window with waiting := { b with state := .rollingBack } :: ws } (s.engine.failed x e c)
      s.rep).Laws answer true := by
  obtain ⟨hce, hport, -⟩ := h.access_due
  obtain ⟨hnone, hcontext, x', hx', ⟨honly, hhand⟩, c', hc', b', hb', hlen, hwritten, hundo⟩ := h.work.2.1 hs
  obtain rfl : x = x' := Option.some.inj (hx.symm.trans hx')
  obtain rfl : b = b' := Option.some.inj (hb.symm.trans hb')
  rw [hb] at hhand
  obtain ⟨hstate, hid⟩ := Prod.mk.inj (Option.some.inj hhand)
  have hrestate : (s.win x.window).Tame { s.win x.window with waiting := { b with state := .rollingBack } :: ws } := by
    rw [← Window.restate_head hw hstate (by decide) hclosed]
    exact .restate _ _ _ (by decide) (by decide)
  have hlog : s.engine.undo.length ≤ 64 := by
    rw [← List.length_map (·.addr), hundo, List.length_map]
    exact Nat.le_trans (List.length_take_le' _ _) (h.entries_length (i := x.window) (by rw [hw]; exact List.mem_cons_self ..))
  have hslot := h.slot
  simp only [Engine.resumed, hs] at hslot
  exact { h.toStoreLaws.replaced _ _ hrestate rfl (fun hl => hl.restates rfl rfl (by simp [hw])) with
    slot := by simpa [State.replaced, Engine.failed, Engine.resumed, hx] using hslot
    collect := h.collect
    queue := h.queue.congr rfl (State.win_congr_of_replaced Window.queuedBatch _ _
      ((Window.queuedBatch_of_atWork rfl (by simp) hclosed).trans
        (Window.queuedBatch_of_atWork hw (by simp [hstate]) hclosed).symm))
    work := .of_rollingBack rfl ⟨fun j => (State.win_congr_of_replaced (·.place.isFaulted) _ _ (by rfl) j).trans (hnone j),
      rfl, hne, hlog, _, rfl, fun y hy => by
        obtain rfl : x = y := Option.some.inj (hx.symm.trans hy)
        refine ⟨rfl, rfl, fun j hj => ?_, ?_⟩
        · rw [State.replaced_win_other _ _ fun hij => hj (congrArg some hij.symm)]
          exact honly j hj
        · rw [State.replaced_win, Window.batchAtWork_head rfl (.inr rfl), ← hid]
          rfl,
      fun hnot => absurd (hx.symm.trans hnot) nofun⟩
    update := h.update
    cycle := h.cycle
    commit := by
      change s.arb.ce.isSome.toNat + (s.arb.onPort .ce).isSome.toNat + 1 = 1
      rw [hce, hport]
      rfl
    probe := h.probe
    read := fun t ht => by
      have hin : (s.replaced x.window { s.win x.window with waiting := { b with state := .rollingBack } :: ws }
          (s.engine.failed x e c) s.rep).inHandWindow = s.inHandWindow := by
        simp [State.inHandWindow, State.replaced, Engine.failed, hs, hx]
      rw [hin]
      exact h.read t ht }

/-- A failed access of a commit begins the rollback, or ends it where nothing has been logged. -/
theorem State.Laws.failCommit (h : s.Laws answer true) (hs : s.engine.state = .committing) (hx : s.engine.inHand = some x)
    (hb : (s.win x.window).batchAtWork = some b) (e : Entry) (c : Cursor) : (s.failCommit x e c).Laws answer false := by
  obtain ⟨ws, hw, -, hclosed⟩ := (h.batches x.window).head_of_atWork hb
  obtain ⟨hi, honly, b', hb', hstate⟩ := h.inHand h.access_due.2.2 hx
  obtain rfl : b = b' := Option.some.inj (hb.symm.trans hb')
  have hcommitting := hstate.2 hs
  cases hu : s.engine.undo.reverse with
  | nil =>
    rw [State.failCommit_nil hx hw hcommitting hclosed (List.reverse_eq_nil_iff.1 hu)]
    exact h.batchEnds hx hw (.inl hcommitting) hclosed _ _
  | cons r us =>
    have hlog : s.engine.undo = us.reverse ++ [r] := by rw [← List.reverse_cons, ← hu, List.reverse_reverse]
    rw [State.failCommit_nonempty hw hcommitting hclosed hlog]
    exact (h.failed hs hx hb hw hclosed (by simp [hlog]) e c).placeCommit _

/-- A rollback access is owed after another of its records has been written back (R102). -/
theorem State.Laws.undoPopped (h : s.Laws answer true) (hs : s.engine.state = .rollingBack)
    (hne : s.engine.undo.dropLast ≠ []) (n : Nat) :
    { s with engine := { s.engine with
      undo := s.engine.undo.dropLast
      context := s.engine.context.map fun c => { c with rolledBack := c.rolledBack + 1 }
      resumedWrites := n } : State }.Laws answer true := by
  obtain ⟨hnone, hcursor, -, hlen, c, hc, hin, hresumed⟩ := h.work.2.2.1 hs
  have hcontext : (s.engine.context.map fun c => { c with rolledBack := c.rolledBack + 1 }) =
      some { c with rolledBack := c.rolledBack + 1 } := by rw [hc]; rfl
  refine h.setEngine rfl rfl rfl rfl ?_ ?_
  · simp only [State.inHandWindow, Option.map_map]
    rfl
  · refine .of_rollingBack hs ⟨hnone, hcursor, hne, ?_, { c with rolledBack := c.rolledBack + 1 }, hcontext, hin, hresumed⟩
    exact Nat.le_trans (by simp) hlen

/-- While a resumed rollback is in flight, the command that resumed it is the one in the slot, and no answer is owed besides (R167). -/
theorem State.Laws.resumed_answer (h : s.Laws answer access) (hx : s.engine.resumed = true) : answer = false := by
  have hslot := h.slot
  have hle := Bool.toNat_le s.svc.slot.isWorking
  cases answer with
  | false => rfl
  | true =>
    rw [hx] at hslot
    simp only [Bool.toNat_true] at hslot
    omega

/-- The command in the slot is answered (R167). No READY response is being shifted out while it is WORKING. -/
theorem State.Laws.reply (h : s.Laws true access) (r : Result) (q : List Byte) : (s.reply r q).Laws false access := by
  have hslot := h.slot
  cases hs : s.svc.slot with
  | idle =>
    rw [hs] at hslot
    simp only [Slot.isWorking, Bool.toNat_true, Bool.toNat_false] at hslot
    omega
  | ready tag r p =>
    rw [hs] at hslot
    simp only [Slot.isWorking, Bool.toNat_true, Bool.toNat_false] at hslot
    omega
  | working tag code p =>
    rw [State.reply_working r q s tag code p hs]
    rw [hs] at hslot
    exact { h with
      slot := by
        simp only [Slot.isWorking, Bool.toNat_true, Bool.toNat_false] at hslot ⊢
        omega
      collect := fun t ht f hf => by
        have hready := (h.collect t ht f hf).1
        simp [State.reasonResponse, hs] at hready }

theorem State.completeRollback_resumed (hc : s.engine.context = some g) (hx : s.engine.inHand = none) :
    s.completeRollback = State.reply .ok [num8 s.engine.resumedWrites]
      { (s.record (.batchAborted g.window g.id g.addr g.step g.rolledBack .restoredOnRetry)).releaseCycleRead g.window with
        engine := s.engine.quiet } := by
  obtain ⟨-, -, -, -, -, hengine, -⟩ := State.releaseCycleRead_frame g.window
    (s.record (.batchAborted g.window g.id g.addr g.step g.rolledBack .restoredOnRetry))
  simp only [State.completeRollback, hc, hx, hengine]
  rfl

/-- A resumed rollback ends: the window is not in hand any more, and the command that resumed it is owed its answer (R113). -/
theorem State.Laws.resumedEnds (h : s.Laws answer true) (hs : s.engine.state = .rollingBack)
    (hx : s.engine.inHand = none) (hg : s.engine.context = some g) (body : RecordBody) (e : Engine) :
    { ({ s with engine := e } : State).record body |>.releaseCycleRead g.window with engine := s.engine.quiet : State }.Laws
      true false := by
  obtain ⟨-, -, -, -, c, hc, -, hresumed⟩ := h.work.2.2.1 hs
  obtain ⟨-, honly⟩ := hresumed hx
  have hi : s.inHandWindow = some g.window := by simp [State.inHandWindow, hs, hx, hg]
  have hfree := State.releaseCycleRead_heldRead h.read hi
  have hreleased := State.releaseCycleRead_lawsKept g.window h
  obtain ⟨-, hwindows, -, hupd, -, hengine, -, hsvc, -⟩ := State.releaseCycleRead_frame g.window s
  rw [State.releaseCycleRead_congr (s := s) (t := State.record body { s with engine := e }) g.window rfl rfl]
  have hflight : s.engine.resumed = true := by simp [Engine.resumed, hs, hx]
  have hwin : ∀ j, (s.releaseCycleRead g.window).win j = s.win j := fun j => by rw [State.win, State.win, hwindows]
  refine hreleased.quiet { h.toStoreLaws with } (by rw [hengine]) (fun j => honly j nofun) (fun j => by rw [hwin]; rfl)
    (fun j => by rw [hwin]; rfl) hupd.symm rfl rfl hsvc.symm hfree ?_
  rw [hengine, hflight, h.resumed_answer hflight]
  rfl

/-- A record is written back: the next write is owed, or the rollback completes (R102, R103, R113). -/
theorem State.Laws.rollbackWriteDone (h : s.Laws answer true) (hs : s.engine.state = .rollingBack) :
    s.rollbackWriteDone.Laws answer false := by
  obtain ⟨hnone, hcursor, -, hlen, g, hg, hin, hresumed⟩ := h.work.2.2.1 hs
  unfold State.rollbackWriteDone State.continueRollback
  split
  · next r hlast =>
    refine (h.undoPopped hs ?_ _).placeCommit _
    intro hnil
    rw [hnil] at hlast
    cases hlast
  · have hcontext : (s.engine.context.map fun c => { c with rolledBack := c.rolledBack + 1 }) =
        some { g with rolledBack := g.rolledBack + 1 } := by rw [hg]; rfl
    cases hx : s.engine.inHand with
    | some x =>
      obtain ⟨-, -, b, hb, hstate⟩ := h.inHand h.access_due.2.2 hx
      obtain ⟨ws, hw, hwork, hclosed⟩ := (h.batches x.window).head_of_atWork hb
      have hrolling : b.state = .rollingBack := hwork.resolve_left fun hc => by
        rw [hs] at hstate
        exact absurd (hstate.1 hc) (by decide)
      refine State.Laws.of_eq (State.completeRollback_inHand (c := { g with rolledBack := g.rolledBack + 1 }) (h := x)
        (by exact hcontext) (by exact hx) (by exact hw) hrolling) ?_
      exact h.batchEnds hx hw (.inr hrolling) hclosed _ _
    | none =>
      rw [h.resumed_answer (by simp [Engine.resumed, hs, hx])]
      refine State.Laws.of_eq (State.completeRollback_resumed (g := { g with rolledBack := g.rolledBack + 1 })
        (by exact hcontext) (by exact hx)) ?_
      exact (h.resumedEnds hs hx hg _ _).reply .ok _

end

end Sys2Proof.Machine
end

section
/-! SUPPORT. The failure of a rollback under the device law, and the end of an access of the engine. -/

namespace Sys2Proof.Machine

/-! ### The failure of a rollback (R106, R107, R113) -/

/-- An installed place becomes FAULTED, with its descriptor. -/
theorem Place.toFaulted_isFaulted {p : Place} (h : p.heldFields ≠ none) : p.toFaulted.isFaulted = true := by
  cases p with
  | free => exact absurd rfl h
  | active d => rfl
  | faulted d => rfl

theorem Place.toFaulted_heldFields (p : Place) : p.toFaulted.heldFields = p.heldFields := by cases p <;> rfl

theorem Place.toActive_heldFields (p : Place) : p.toActive.heldFields = p.heldFields := by cases p <;> rfl

theorem Place.toActive_isFaulted (p : Place) : p.toActive.isFaulted = false := by cases p <;> rfl

/-- Neither QUEUED nor at work, every batch of a waiting list is CLOSED. -/
theorem Window.allClosed_of_none {w : Window} (hq : w.queuedBatch = none) (hwork : w.batchAtWork = none) :
    allClosed w.waiting := by
  refine List.all_eq_true.2 fun b hb => ?_
  have hnotQueued := List.find?_eq_none.1 hq b hb
  have hnotAtWork := List.find?_eq_none.1 hwork b hb
  cases hs : b.state <;> simp [hs] at hnotQueued hnotAtWork ⊢

section
variable {answer access : Bool} {s : State} {g : FaultContext} {x : BatchInHand}

/-- What the engine keeps when it halts: the undo log, as the residue, and the fault context (R106). -/
def Engine.halted (e : Engine) : Engine := { e with state := .halted, inHand := none, cursor := none }

/-- The window of a failed rollback: FAULTED, with the batches that stay with it (R106, R107). -/
def Window.faultedWith (counters : WindowCounters) (ws : List WaitBatch) (w : Window) : Window :=
  ⟨w.place.toFaulted, counters, w.openBatch, ws⟩

/-- The window of the fault context is the one FAULTED window, with nothing at work or QUEUED. -/
theorem State.Laws.haltedLaw {ws : List WaitBatch} (h : s.Laws answer access) (hs : s.engine.state = .rollingBack)
    (hg : s.engine.context = some g) (hheld : s.isHeldWindow g.window) (hclosed : allClosed ws)
    (honly : s.atWorkOnly (some g.window)) (counters : WindowCounters) (r : ReportUnit) :
    (s.replaced g.window ((s.win g.window).faultedWith counters ws) s.engine.halted r).haltedLaw := by
  obtain ⟨hnone, -, hne, hlen, -⟩ := h.work.2.2.1 hs
  refine ⟨rfl, rfl, hne, hlen, fun j _ => ?_, g, hg, ?_, ?_, fun j => ?_⟩
  · by_cases hj : g.window = j
    · subst hj
      rw [State.replaced_win]
      exact Window.batchAtWork_of_closed hclosed
    · rw [State.replaced_win_other _ _ hj]
      exact honly j fun hsome => hj (Option.some.inj hsome).symm
  · rw [State.isHeldWindow, State.replaced_win]
    exact fun hnot => hheld ((Place.toFaulted_heldFields _).symm.trans hnot)
  · rw [State.replaced_win]
    exact Window.queuedBatch_of_closed hclosed
  · by_cases hj : g.window = j
    · subst hj
      rw [State.replaced_win]
      exact iff_of_true (Place.toFaulted_isFaulted hheld) rfl
    · rw [State.replaced_win_other _ _ hj]
      exact iff_of_false (by simp [hnone j]) (Ne.symm hj)

/-- The engine halts on a failed rollback, and a held read of its window is answered (R106, R107, R113). -/
theorem State.Laws.halts {answer' : Bool} {ws : List WaitBatch} (h : s.Laws answer true) (hs : s.engine.state = .rollingBack)
    (hg : s.engine.context = some g) (hi : s.inHandWindow = some g.window) (hheld : s.isHeldWindow g.window)
    (hsub : ws.Sublist (s.win g.window).waiting) (hclosed : allClosed ws) (honly : s.atWorkOnly (some g.window))
    (hnoq : (s.win g.window).queuedBatch = none) (hanswer : answer.toNat + s.engine.resumed.toNat = answer'.toNat)
    (counters : WindowCounters) (r : ReportUnit) :
    (State.faultCycleRead g.window
      (s.replaced g.window ((s.win g.window).faultedWith counters ws) s.engine.halted r)).Laws answer' false := by
  obtain ⟨hce, hport, -⟩ := h.access_due
  have hhalted := h.haltedLaw hs hg hheld hclosed honly counters r
  have hfields : ((s.win g.window).faultedWith counters ws).place.heldFields = (s.win g.window).place.heldFields :=
    Place.toFaulted_heldFields _
  have hstore : (s.replaced g.window ((s.win g.window).faultedWith counters ws) s.engine.halted r).StoreLaws :=
    h.toStoreLaws.replaced _ r (.of_sublist (fun d hd => Place.toFaulted_desc _ ▸ hd) (.refl _) hsub) hfields
      fun hl => hl.of_subset hfields id (Nat.le_refl _) hsub.subset
  have hqueued : ((s.win g.window).faultedWith counters ws).queuedBatch = (s.win g.window).queuedBatch :=
    (Window.queuedBatch_of_closed hclosed).trans hnoq.symm
  have hslot := h.slot
  have hcycle := (State.faultCycleRead_lawsKept g.window h).cycle
  have hfree := State.faultCycleRead_heldRead h.read hi
  rw [State.faultCycleRead_congr (s := s) (t := s) g.window rfl] at hcycle
  rw [State.faultCycleRead_congr (s := s) (t := s.replaced _ _ _ _) g.window rfl]
  exact { hstore with
    slot := by
      change s.svc.probe.isSome.toNat + 0 + s.engine.fullReset.toNat + answer'.toNat = s.svc.slot.isWorking.toNat
      omega
    collect := h.collect
    queue := h.queue.congr rfl (State.win_congr_of_replaced Window.queuedBatch s.engine.halted r hqueued)
    work := .of_halted rfl hhalted
    update := h.update
    cycle := hcycle
    commit := by
      change s.arb.ce.isSome.toNat + (s.arb.onPort .ce).isSome.toNat + 0 = 0
      rw [hce, hport]
      rfl
    probe := h.probe
    read := .of_none hfree }

theorem State.halt_replaced (i : WIdx) (w : Window) (e : Engine) (r : ReportUnit) (s : State) :
    (s.replaced i w e r).halt i = s.replaced i (w.faultedWith w.counters w.waiting) e.halted r := by
  unfold State.halt
  dsimp only
  rw [State.mapWin_replaced]
  rfl

/-- A rollback fails with its batch in hand (R106). -/
theorem State.failRollback_inHand {b : WaitBatch} {ws : List WaitBatch} (hg : s.engine.context = some g)
    (hx : s.engine.inHand = some x) (hw : (s.win x.window).waiting = b :: ws)
    (hb : b.state = .committing ∨ b.state = .rollingBack) :
    s.failRollback = State.faultCycleRead x.window (s.replaced x.window
      ((s.win x.window).faultedWith
        { (s.win x.window).counters with batchesAborted := satInc (s.win x.window).counters.batchesAborted } ws)
      s.engine.halted ((s.rep.take (.batchAborted g.window g.id g.addr g.step g.rolledBack .incomplete)).take
        (.windowFaulted g.window g.id s.engine.undo.length))) := by
  have hleft : s.leaveAtWork x.window =
      s.replaced x.window { s.win x.window with waiting := ws } s.engine s.rep := State.leaveAtWork_head hw hb
  simp only [State.failRollback, hg, hx, hleft, State.countAborted, State.mapWin_replaced, State.record_replaced,
    State.halt_replaced]
  rfl

/-- A resumed rollback fails (R113). -/
theorem State.failRollback_resumed (hg : s.engine.context = some g) (hx : s.engine.inHand = none) :
    s.failRollback = State.reply .memoryError [num8 s.engine.undo.length] (State.faultCycleRead g.window
      (((s.discardQueued g.window .cleared).halt g.window).record
        (.windowFaulted g.window g.id s.engine.undo.length))) := by
  simp only [State.failRollback, hg, hx]

theorem State.discardQueued_engine (i : WIdx) (cause : DiscardCause) (s : State) :
    (s.discardQueued i cause).engine = { s.engine with queue := (s.discardQueued i cause).engine.queue } := by
  unfold State.discardQueued
  split <;> rfl

theorem State.halt_eq (i : WIdx) (s : State) : s.halt i = s.replaced i
    ((s.win i).faultedWith (s.win i).counters (s.win i).waiting) s.engine.halted s.rep := rfl

/-- After the discard of its QUEUED batch a window has none. -/
theorem State.Laws.discardQueued_none (h : s.Laws answer access) (i : WIdx) (cause : DiscardCause) :
    ((s.discardQueued i cause).win i).queuedBatch = none := by
  cases hb : (s.win i).queuedBatch with
  | none => simp only [State.discardQueued, hb]
  | some b =>
    obtain ⟨ws, hw, hstate, hclosed⟩ := (h.batches i).head_of_queued hb
    rw [State.discardQueued_head cause hw hstate]
    exact (congrArg Window.queuedBatch (State.setWin_win_same i _ s)).trans (Window.queuedBatch_of_closed hclosed)

theorem State.Laws.failRollback (h : s.Laws answer true) (hs : s.engine.state = .rollingBack) :
    s.failRollback.Laws answer false := by
  obtain ⟨-, -, -, -, g, hg, hin, hresumed⟩ := h.work.2.2.1 hs
  cases hx : s.engine.inHand with
  | some x =>
    obtain ⟨hi, honly, b, hb, -⟩ := h.inHand h.access_due.2.2 hx
    obtain ⟨ws, hw, hwork, hclosed⟩ := (h.batches x.window).head_of_atWork hb
    have hwindow : g.window = x.window := (hin x hx).1
    have hsub : ws.Sublist (s.win x.window).waiting := hw ▸ List.sublist_cons_self b ws
    have hheld : s.isHeldWindow x.window := (h.limits x.window).isHeld (.inr (by simp [hw]))
    have hnoq : (s.win x.window).queuedBatch = none :=
      Window.queuedBatch_of_atWork hw (by rcases hwork with hs | hs <;> simp [hs]) hclosed
    rw [State.failRollback_inHand hg hx hw hwork, ← hwindow]
    rw [← hwindow] at hi hw hheld honly hnoq hsub
    exact h.halts hs hg hi hheld hsub hclosed honly hnoq (by simp [Engine.resumed, hx]) _ _
  | none =>
    have hdiscarded := State.discardQueued_lawsKept g.window .cleared h
    have hnoq := h.discardQueued_none g.window .cleared
    have hengine := s.discardQueued_engine g.window .cleared
    have hs' : (s.discardQueued g.window .cleared).engine.state = .rollingBack := by rw [hengine]; exact hs
    have hx' : (s.discardQueued g.window .cleared).engine.inHand = none := by rw [hengine]; exact hx
    have hg' : (s.discardQueued g.window .cleared).engine.context = some g := by rw [hengine]; exact hg
    obtain ⟨-, -, -, -, c, hc, -, hresumed⟩ := hdiscarded.work.2.2.1 hs'
    obtain rfl : g = c := Option.some.inj (hg'.symm.trans hc)
    obtain ⟨hheld, honly⟩ := hresumed hx'
    have hclosed := Window.allClosed_of_none hnoq (honly g.window nofun)
    have hflight : (s.discardQueued g.window .cleared).engine.resumed = true := by simp [Engine.resumed, hs', hx']
    rw [State.failRollback_resumed hg hx, State.halt_eq, State.record_replaced, hdiscarded.resumed_answer hflight]
    rw [hdiscarded.resumed_answer hflight] at hdiscarded
    exact (hdiscarded.halts (answer' := true) hs' hg' (by simp [State.inHandWindow, hs', hx', hg']) hheld (.refl _) hclosed
      (fun j _ => honly j nofun) hnoq (by rw [hflight]; rfl) _ _).reply .memoryError _

/-- The end of an access of the engine, by what the engine is at (R87, R88, R102, R106). -/
theorem State.Laws.endCommitAccess (h : s.Laws answer true) (o : AccessEnd) : (s.endCommitAccess o).Laws answer false := by
  rcases (Engine.atWork_iff _).1 h.access_due.2.2 with hs | hs
  · obtain ⟨-, -, x, hx, -, c, hc, b, hb, hlen, -, -⟩ := h.work.2.1 hs
    have he : b.entries[c.index]? = some b.entries[c.index] := List.getElem?_eq_getElem hlen
    cases o with
    | failed how =>
      rw [State.endCommitAccess_failed hs hx hc hb he]
      exact h.failCommit hs hx hb _ c
    | done old =>
      cases hstep : c.step with
      | readOld =>
        rw [State.endCommitAccess_readOld hs hx hc hb he hstep]
        exact h.readOldDone hs hx hc hb he hstep old
      | writeNew =>
        rw [State.endCommitAccess_writeNew hs hx hc hb he hstep]
        exact h.writeNewDone hs hx hc hb hstep
  · cases o with
    | done old =>
      simp only [State.endCommitAccess, hs]
      exact h.rollbackWriteDone hs
    | failed how =>
      simp only [State.endCommitAccess, hs]
      exact h.failRollback hs

end

end Sys2Proof.Machine
end

section
/-! SUPPORT. The memory port under the device law: the end of an access of a port or of a probe, and the grant. -/

namespace Sys2Proof.Machine

/-! ### The end of an access of a port or of a probe (R136) -/

/-- A port unit with an access on the memory port has nothing waiting. -/
theorem UpdateState.waits_of_under {u : UpdateState} (h : u.under.isSome = true) : u.waits = none := by
  cases u with
  | atMemory t => rfl
  | draining t => rfl
  | idle => cases h
  | requested t => cases h
  | held x f t => cases h

theorem CycleState.waits_of_under {c : CycleState} (h : c.under.isSome = true) : c.waits = none := by
  cases c with
  | atMemory t => rfl
  | draining t => rfl
  | idle => cases h
  | requested t => cases h
  | held t => cases h

section
variable {answer access : Bool} {s : State}

/-- The port unit whose access ends was waiting for nothing, and is off the bus again. -/
theorem State.Laws.updateEnds (h : s.Laws answer access) (hup : s.arb.port.map (·.owner) = some .up) {u : UpdateUnit}
    (hu : u.state = .idle) : { s.portFreed with upd := u : State }.Laws answer access := by
  obtain ⟨hwaits, hunder⟩ := h.update
  have hother : ∀ who, who ≠ .up → s.arb.onPort who = none := fun _ => Arbiter.onPort_other hup
  have hnone : s.upd.state.waits = none := UpdateState.waits_of_under (hunder ▸ by simpa using Arbiter.onPort_owner hup .up)
  have hcommit := h.commit
  have hprobe := h.probe
  rw [hother .ce nofun] at hcommit
  rw [hother .sl nofun] at hprobe
  exact { h with
    write := by rw [hu]; exact nofun
    update := ⟨by rw [hu]; exact hwaits.trans hnone, by rw [hu]; rfl⟩
    cycle := ⟨h.cycle.1, (hother .cp nofun).symm.trans h.cycle.2⟩
    commit := hcommit
    probe := hprobe }

theorem State.Laws.endUpdateAccess (h : s.Laws answer access) (hup : s.arb.port.map (·.owner) = some .up) (o : AccessEnd) :
    (s.portFreed.endUpdateAccess o).Laws answer access := by
  have hends := @State.Laws.updateEnds _ _ _ h hup
  have hport : s.upd.state.under.isSome = true := by
    rw [← h.update.2]
    simpa using Arbiter.onPort_owner hup .up
  have hstate : s.portFreed.upd.state = s.upd.state := rfl
  unfold State.endUpdateAccess
  split
  · split
    · exact { hends (u := { s.upd with state := .idle, answer := some .fault }) rfl with }
    · split
      · exact hends rfl
      · dsimp only
        split
        · exact State.record_lawsKept _ (hends rfl)
        · exact hends rfl
  · cases o with
    | failed how => exact { hends (u := { s.upd with state := .idle }) rfl with }
    | done data => exact hends rfl
  · next hs => rw [← hstate, hs] at hport; cases hport
  · next hs => rw [← hstate, hs] at hport; cases hport
  · next hs => rw [← hstate, hs] at hport; cases hport

theorem State.Laws.cycleEnds (h : s.Laws answer access) (hcp : s.arb.port.map (·.owner) = some .cp) {c : CycleUnit}
    (hc : c.state.offBus) (hread : { s with cyc := c : State }.heldReadLaw) :
    { s.portFreed with cyc := c : State }.Laws answer access := by
  obtain ⟨hwaits, hunder⟩ := h.cycle
  have hother : ∀ who, who ≠ .cp → s.arb.onPort who = none := fun _ => Arbiter.onPort_other hcp
  have hnone : s.cyc.state.waits = none := CycleState.waits_of_under (hunder ▸ by simpa using Arbiter.onPort_owner hcp .cp)
  have hcommit := h.commit
  have hprobe := h.probe
  rw [hother .ce nofun] at hcommit
  rw [hother .sl nofun] at hprobe
  exact { h with
    update := ⟨h.update.1, (hother .up nofun).symm.trans h.update.2⟩
    cycle := ⟨by rw [hc.1]; exact hwaits.trans hnone, by rw [hc.2]; rfl⟩
    commit := hcommit
    probe := hprobe
    read := hread }

theorem State.Laws.endCycleAccess (h : s.Laws answer access) (hcp : s.arb.port.map (·.owner) = some .cp) (o : AccessEnd) :
    (s.portFreed.endCycleAccess o).Laws answer access := by
  have hends : ∀ {c : CycleUnit}, c.state = .idle → { s.portFreed with cyc := c : State }.Laws answer access := fun {c} hc =>
    h.cycleEnds hcp (by rw [hc]; exact .idle) (.of_none (by rw [hc]; rfl))
  have hport : s.cyc.state.under.isSome = true := by
    rw [← h.cycle.2]
    simpa using Arbiter.onPort_owner hcp .cp
  have hstate : s.portFreed.cyc.state = s.cyc.state := rfl
  unfold State.endCycleAccess
  split
  · next t hs =>
    split
    · exact { hends (c := { s.cyc with state := .idle, answer := some .fault }) rfl with }
    · split
      · split
        · next heldHere =>
          obtain ⟨hsome, heq⟩ := Bool.and_eq_true_iff.1 heldHere
          refine h.cycleEnds hcp (.held t) fun u hu => ?_
          obtain rfl : t = u := Option.some.inj hu
          exact ⟨hsome, eq_of_beq heq⟩
        · exact hends rfl
      · dsimp only
        split
        · exact State.record_lawsKept _ (hends rfl)
        · exact hends rfl
  · cases o with
    | failed how => exact { hends (c := { s.cyc with state := .idle }) rfl with }
    | done data => exact hends rfl
  · next hs => rw [← hstate, hs] at hport; cases hport
  · next hs => rw [← hstate, hs] at hport; cases hport
  · next hs => rw [← hstate, hs] at hport; cases hport

/-- The probe's access ends: the probe is over, and its command is owed the answer (R141). -/
theorem State.Laws.probeEnds (h : s.Laws false access) (hsl : s.arb.port.map (·.owner) = some .sl) :
    { s.portFreed with svc := { s.svc with probe := none } : State }.Laws true access := by
  have hother : ∀ who, who ≠ .sl → s.arb.onPort who = none := fun _ => Arbiter.onPort_other hsl
  have hport : (s.arb.onPort .sl).isSome = true := by simpa using Arbiter.onPort_owner hsl .sl
  have hcommit := h.commit
  have hprobe := h.probe
  have hslot := h.slot
  rw [hother .ce nofun] at hcommit
  rw [hport] at hprobe
  have hle := Bool.toNat_le s.svc.probe.isSome
  simp only [Bool.toNat_true] at hprobe
  exact { h with
    slot := by
      simp only [Option.isSome_none, Bool.toNat_true, Bool.toNat_false] at hslot ⊢
      exact (by omega : 0 + s.engine.resumed.toNat + s.engine.fullReset.toNat + 1 = s.svc.slot.isWorking.toNat)
    update := ⟨h.update.1, (hother .up nofun).symm.trans h.update.2⟩
    cycle := ⟨h.cycle.1, (hother .cp nofun).symm.trans h.cycle.2⟩
    commit := hcommit
    probe := by
      change s.arb.sl.isSome.toNat + 0 = 0
      omega }

theorem State.Laws.endProbe (h : s.Laws false access) (hsl : s.arb.port.map (·.owner) = some .sl) (o : AccessEnd) :
    (s.portFreed.endProbe o).Laws false access := by
  have hends := h.probeEnds hsl
  have hport : (s.arb.onPort .sl).isSome = true := by simpa using Arbiter.onPort_owner hsl .sl
  unfold State.endProbe
  split
  · cases o with
    | done data => exact hends.reply _ _
    | failed how => exact (State.record_lawsKept _ hends).reply _ _
  · next hp =>
    have hprobe := h.probe
    rw [hport, show s.svc.probe = none from hp] at hprobe
    simp only [Option.isSome_none, Bool.toNat_true, Bool.toNat_false] at hprobe
    omega

theorem State.Laws.endAccess (h : s.Laws false false) (o : AccessEnd) : (s.endAccess o).Laws false false := by
  cases hport : s.arb.port with
  | none =>
    simp only [State.endAccess, hport]
    exact h
  | some p =>
    have howner : s.arb.port.map (·.owner) = some p.owner := by rw [hport]; rfl
    cases hp : p.owner with
    | cp => exact .of_eq (by simp only [State.endAccess, hport, hp]; rfl) (h.endCycleAccess (hp ▸ howner) o)
    | ce => exact .of_eq (State.endAccess_of_ce (hp ▸ howner) o) ((h.portFreed_ce (hp ▸ howner)).endCommitAccess o)
    | up => exact .of_eq (by simp only [State.endAccess, hport, hp]; rfl) (h.endUpdateAccess (hp ▸ howner) o)
    | sl => exact .of_eq (by simp only [State.endAccess, hport, hp]; rfl) (h.endProbe (hp ▸ howner) o)

theorem State.Laws.timeOut (h : s.Laws false false) : s.timeOut.Laws false false := by
  unfold State.timeOut
  split
  · exact (State.elapse_lawsKept _ h).endAccess _
  · exact h

end

/-! ### The grant (R132, R133) -/

/-- The request that a requester has waiting. -/
def Arbiter.request (a : Arbiter) : Requester → Option BusRequest
  | .cp => a.cp
  | .ce => a.ce
  | .up => a.up
  | .sl => a.sl

theorem Arbiter.highestOther_request {a : Arbiter} {who : Requester} {r : BusRequest} (h : a.highestOther = some (who, r)) :
    a.request who = some r := by
  unfold Arbiter.highestOther at h
  split at h
  · next hce => cases h; exact hce
  · split at h
    · next hup => cases h; exact hup
    · split at h
      · next hsl => cases h; exact hsl
      · cases h

/-- A grant chooses a request that waits. -/
theorem Arbiter.choose_request {a : Arbiter} {who : Requester} {r : BusRequest} {n : Nat}
    (h : a.choose = some (who, r, n)) : a.request who = some r := by
  unfold Arbiter.choose at h
  split at h
  · next hcp _ => cases h; exact hcp
  · next hcp hother =>
    split at h
    · cases h; exact hcp
    · cases h; exact Arbiter.highestOther_request hother
  · next hother => cases h; exact Arbiter.highestOther_request hother
  · cases h

/-- The arbiter after a grant. -/
def Arbiter.granted (a : Arbiter) (who : Requester) (r : BusRequest) (n : Nat) : Arbiter :=
  { a.clear who with port := some ⟨r, who, a.timeout, 0⟩, streak := n }

theorem Arbiter.onPort_free {a : Arbiter} (h : a.port = none) (who : Requester) : a.onPort who = none := by
  simp only [Arbiter.onPort, h]

section
variable {answer access : Bool} {s : State} {r : BusRequest} {n : Nat}

/-- A grant moves a request from where it waits to the port. -/
theorem State.Laws.granted_ce (h : s.Laws answer access) (hport : s.arb.port = none) (hr : s.arb.ce = some r) :
    { s with arb := s.arb.granted .ce r n : State }.Laws answer access := by
  have hnone := Arbiter.onPort_free hport
  have hcommit := h.commit
  rw [hr, hnone] at hcommit
  exact { h with
    update := ⟨h.update.1, (hnone .up).symm.trans h.update.2⟩
    cycle := ⟨h.cycle.1, (hnone .cp).symm.trans h.cycle.2⟩
    commit := hcommit
    probe := (congrArg (s.arb.sl.isSome.toNat + ·.isSome.toNat) (hnone .sl)).symm.trans h.probe }


theorem State.Laws.granted_sl (h : s.Laws answer access) (hport : s.arb.port = none) (hr : s.arb.sl = some r) :
    { s with arb := s.arb.granted .sl r n : State }.Laws answer access := by
  have hnone := Arbiter.onPort_free hport
  have hcommit := h.commit
  have hprobe := h.probe
  rw [hnone] at hcommit
  rw [hr, hnone] at hprobe
  exact { h with
    update := ⟨h.update.1, (hnone .up).symm.trans h.update.2⟩
    cycle := ⟨h.cycle.1, (hnone .cp).symm.trans h.cycle.2⟩
    commit := hcommit
    probe := hprobe }

theorem State.Laws.granted_up (h : s.Laws answer access) (hport : s.arb.port = none) (hr : s.arb.up = some r) :
    (State.seeGrant .up { s with arb := s.arb.granted .up r n }).Laws answer access := by
  have hnone := Arbiter.onPort_free hport
  have hcommit := h.commit
  have hprobe := h.probe
  rw [hnone] at hcommit hprobe
  obtain ⟨hwaits, -⟩ := h.update
  rw [hr] at hwaits
  cases hs : s.upd.state with
  | requested t =>
    have hreq : some r = some t.req := by rw [hwaits, hs]; rfl
    exact .of_eq (by simp only [State.seeGrant, hs]) ({ h with
      write := nofun
      update := ⟨rfl, hreq⟩
      cycle := ⟨h.cycle.1, (hnone .cp).symm.trans h.cycle.2⟩
      commit := hcommit
      probe := hprobe } : State.Laws answer access { s with
        arb := s.arb.granted .up r n, upd := { s.upd with state := .atMemory t } })
  | idle => rw [hs] at hwaits; cases hwaits
  | atMemory t => rw [hs] at hwaits; cases hwaits
  | held x f t => rw [hs] at hwaits; cases hwaits
  | draining t => rw [hs] at hwaits; cases hwaits

theorem State.Laws.granted_cp (h : s.Laws answer access) (hport : s.arb.port = none) (hr : s.arb.cp = some r) :
    (State.seeGrant .cp { s with arb := s.arb.granted .cp r n }).Laws answer access := by
  have hnone := Arbiter.onPort_free hport
  have hcommit := h.commit
  have hprobe := h.probe
  rw [hnone] at hcommit hprobe
  obtain ⟨hwaits, -⟩ := h.cycle
  rw [hr] at hwaits
  cases hs : s.cyc.state with
  | requested t =>
    have hreq : some r = some t.req := by rw [hwaits, hs]; rfl
    exact .of_eq (by simp only [State.seeGrant, hs]) ({ h with
      update := ⟨h.update.1, (hnone .up).symm.trans h.update.2⟩
      cycle := ⟨rfl, hreq⟩
      commit := hcommit
      probe := hprobe
      read := .of_none rfl } : State.Laws answer access { s with
        arb := s.arb.granted .cp r n, cyc := { s.cyc with state := .atMemory t } })
  | idle => rw [hs] at hwaits; cases hwaits
  | atMemory t => rw [hs] at hwaits; cases hwaits
  | held t => rw [hs] at hwaits; cases hwaits
  | draining t => rw [hs] at hwaits; cases hwaits

end

theorem State.grantNext_lawsKept : LawsKept State.grantNext := by
  intro answer access s h
  unfold State.grantNext
  split
  · next who r n hport hchoose =>
    have hr := Arbiter.choose_request hchoose
    cases who with
    | cp => exact h.granted_cp hport hr
    | ce => exact h.granted_ce hport hr
    | up => exact h.granted_up hport hr
    | sl => exact h.granted_sl hport hr
  · exact h

end Sys2Proof.Machine
end

section
/-! SUPPORT. The resets under the device law, and the work that an event owes. -/

namespace Sys2Proof.Machine

/-! ### The update-side discard and the port-side resets (R43, R44, R60, R127) -/

section
variable {answer access : Bool} {s t : State}

theorem Window.resetDiscard_batchAtWork (w : Window) : w.resetDiscard.batchAtWork = w.batchAtWork :=
  find?_filter_of_imp (fun _ => id) _

theorem Window.resetDiscard_queuedBatch (w : Window) : w.resetDiscard.queuedBatch = none := by
  refine List.find?_eq_none.2 fun b hb hq => ?_
  have hkept := (List.mem_filter.1 hb).2
  simp [WaitBatch.kept, eq_of_beq hq] at hkept

theorem Window.withinLimits.resetDiscard {w : Window} (h : w.withinLimits) : w.resetDiscard.withinLimits :=
  h.of_subset rfl (fun _ => rfl) (Nat.zero_le _) List.filter_sublist.subset

theorem Window.Tame.resetDiscard (w : Window) : w.Tame w.resetDiscard :=
  .of_sublist (fun _ h => h) (List.nil_sublist _) List.filter_sublist

theorem State.windowsKept_win (ht : t.windows = s.windowsKept) (i : WIdx) : t.win i = (s.win i).resetDiscard := by
  rw [State.win, State.win, ht, State.windowsKept, Fin.getElem_fin, Vector.getElem_map]
  rfl

theorem State.discardAll_lawsKept (scope : ResetScope) : LawsKept (State.discardAll scope) := by
  intro answer access s h
  rw [State.discardAll_eq]
  have hwin := State.windowsKept_win (s := s) (t := { s with
    windows := s.windowsKept, engine := { s.engine with queue := [] }
    rep := s.rep.take (.resetDiscard scope s.discarded) }) rfl
  exact { h with
    windows := .of_desc (fun i d hd => by rw [hwin] at hd; exact hd) h.windows
    batches := fun i => by
      rw [hwin]
      exact (Window.Tame.resetDiscard _).batches (h.batches i)
    limits := fun i => by rw [hwin]; exact (h.limits i).resetDiscard
    write := fun x hx => by rw [hwin]; exact h.write x hx
    queue := ⟨List.nodup_nil, nofun, fun i hi => (hi (by rw [hwin, Window.resetDiscard_queuedBatch])).elim⟩
    work := h.work.congr rfl (fun i => by rw [hwin, Window.resetDiscard_batchAtWork]) (fun i => by rw [hwin]; rfl)
      (fun c _ _ hc => by rw [State.isHeldWindow, hwin]; exact hc)
      fun i _ _ => by rw [hwin, Window.resetDiscard_queuedBatch] }

theorem State.abandonUpdate_lawsKept : LawsKept State.abandonUpdate := by
  intro answer access s h
  obtain ⟨hwaits, hunder⟩ := h.update
  unfold State.abandonUpdate
  split
  · exact h
  · next t hs =>
    rw [hs] at hunder
    exact { h with write := nofun, update := ⟨rfl, hunder⟩ }
  · next t hs =>
    rw [hs] at hwaits hunder
    exact { h with write := nofun, update := ⟨hwaits, hunder⟩ }
  · next x f t hs => exact h.setUpdate (hs ▸ .held x f t) .idle nofun
  · exact h

theorem State.abandonCycle_lawsKept : LawsKept State.abandonCycle := by
  intro answer access s h
  obtain ⟨hwaits, hunder⟩ := h.cycle
  unfold State.abandonCycle
  split
  · exact h
  · next t hs =>
    rw [hs] at hunder
    exact { h with cycle := ⟨rfl, hunder⟩, read := .of_none rfl }
  · next t hs =>
    rw [hs] at hwaits hunder
    exact { h with cycle := ⟨hwaits, hunder⟩, read := .of_none rfl }
  · next t hs => exact h.setCycle (hs ▸ .held t) .idle (.of_none rfl)
  · exact h

theorem State.updateReset_lawsKept : LawsKept State.updateReset := by
  intro answer access s h
  unfold State.updateReset
  split
  · exact h
  · exact State.discardAll_lawsKept _ (State.abandonUpdate_lawsKept { h with })

theorem State.cycleReset_lawsKept : LawsKept State.cycleReset := by
  intro answer access s h
  unfold State.cycleReset
  split
  · exact h
  · exact State.abandonCycle_lawsKept { h with }

theorem State.leaveReset_lawsKept : LawsKept State.leaveReset := fun _ _ _ h => { h with }

/-! ### The power-on values and the full reset (R64, R178) -/

/-- All windows at their power-on values, and no write held. -/
theorem State.StoreLaws.of_resetWindows (hw : t.windows = resetWindows) (hheld : t.upd.state.heldWrite = none) : t.StoreLaws where
  windows := (State.KeepsLaws.of_resetWindows (s := State.reset) hw).windows State.reset_windowLaw
  batches := fun i => by
    have hi : t.win i = Window.reset := by simp [State.win, hw, resetWindows]
    rw [hi]
    exact Window.reset_batchLaw
  limits := fun i => by
    have hi : t.win i = Window.reset := by simp [State.win, hw, resetWindows]
    rw [hi]
    exact ⟨fun _ => ⟨rfl, rfl⟩, nofun⟩
  write := by rw [hheld]; exact nofun

/-- An engine at its power-on values, over windows at theirs. -/
theorem State.workLaw.of_reset (hw : t.windows = resetWindows) (he : t.engine = Engine.reset) : t.workLaw := by
  have hi : ∀ i, t.win i = Window.reset := fun i => by simp [State.win, hw, resetWindows]
  refine .of_idle (by rw [he]; rfl) ?_
  rw [State.idleLaw, he]
  refine ⟨rfl, rfl, rfl, rfl, fun i _ => ?_, fun i => ?_⟩
  · rw [hi]; rfl
  · rw [hi]; rfl

theorem State.queueLaw.of_reset (hw : t.windows = resetWindows) (he : t.engine = Engine.reset) : t.queueLaw := by
  have hi : ∀ i, t.win i = Window.reset := fun i => by simp [State.win, hw, resetWindows]
  rw [State.queueLaw, he]
  refine ⟨List.nodup_nil, nofun, fun i hq => ?_⟩
  rw [hi] at hq
  exact (hq rfl).elim

/-- Every block at its power-on values, with any requests waiting on their handshakes. -/
theorem State.Laws.powerOn (pins : Pins) (ups cps : List BusRequest) (p : List Instr) :
    { State.powerOn pins with
      upd := { UpdateUnit.reset with waiting := ups }, cyc := { CycleUnit.reset with waiting := cps }, pending := p :
      State }.Laws false false where
  toStoreLaws := .of_resetWindows rfl rfl
  slot := rfl
  collect := nofun
  queue := .of_reset rfl rfl
  work := .of_reset rfl rfl
  update := ⟨rfl, rfl⟩
  cycle := ⟨rfl, rfl⟩
  commit := rfl
  probe := rfl
  read := .of_none rfl

/-- No write is held once held writes are answered FAULT. -/
theorem State.faultHeld_heldWrite (s : State) : s.faultHeld.upd.state.heldWrite = none := by
  unfold State.faultHeld
  split
  · rfl
  · next hs =>
    cases hu : s.upd.state with
    | held x f t => exact (hs _ _ _ hu).elim
    | idle => rfl
    | requested t => rfl
    | atMemory t => rfl
    | draining t => rfl


/-- An engine at rest has no window in hand and is owed no access. -/
theorem State.atRest_frame (hrest : s.engine.state = .idle ∨ s.engine.state = .halted) :
    s.inHandWindow = none ∧ s.engine.atWork = false := by
  rcases hrest with hs | hs <;> simp [State.inHandWindow, Engine.atWork, hs]

/-- The command that asked for a full reset is the one in the slot, and with the reset done it is owed its answer (R167, R178). -/
theorem State.Laws.resetBlocks (h : s.Laws false false) (hheld : s.upd.state.heldWrite = none) (hdue : s.fullResetDue = true)
    (store : Store) (epoch : EpochUnit) (rep : ReportUnit) :
    { s with
      windows := resetWindows, store, epoch, engine := Engine.reset
      arb := { s.arb with streak := 0, timeout := Config.accessTimeout }
      rep, svc := { s.svc with dropped := 0 } : State }.Laws true false := by
  obtain ⟨hfull, hrest⟩ := s.fullResetDue_iff.1 hdue
  obtain ⟨hhand, hwork⟩ := State.atRest_frame hrest
  have hslot := h.slot
  have hle := Bool.toNat_le s.svc.slot.isWorking
  have hcommit := h.commit
  rw [hfull, Bool.toNat_true] at hslot
  rw [hwork] at hcommit
  exact { h with
    toStoreLaws := .of_resetWindows rfl hheld
    slot := by
      change s.svc.probe.isSome.toNat + 0 + 0 + 1 = s.svc.slot.isWorking.toNat
      simp only [Bool.toNat_false] at hslot
      omega
    queue := .of_reset rfl rfl
    work := .of_reset rfl rfl
    commit := hcommit
    read := .of_none (h.read.none_of_no_hand hhand) }

theorem State.Laws.completeReset (h : s.Laws false false) (hdue : s.fullResetDue = true) (waited : Bool) :
    (s.completeReset waited).Laws false false := by
  have heng := s.faultHeld_frame.2.2.2.2.2.1
  have hdue' : s.faultHeld.fullResetDue = true := by rwa [State.fullResetDue, heng]
  exact ((State.faultHeld_lawsKept h).resetBlocks s.faultHeld_heldWrite hdue' _ _ _).reply _ _

theorem State.Laws.settleWork (h : s.Laws false false) : s.settleWork.Laws false false := by
  have hwrite := State.settleWrite_lawsKept h
  rw [State.settleWork_eq]
  split
  · next hdue => exact hwrite.completeReset hdue true
  · exact hwrite

theorem State.takeWaiting_lawsKept : LawsKept State.takeWaiting := fun _ _ _ h =>
  State.takeCycles_lawsKept _ (State.takeUpdates_lawsKept _ h)

theorem State.Laws.settle (h : s.Laws false false) : s.settle.Laws false false := State.takeWaiting_lawsKept h.settleWork

/-! ### PART_RESET (R176, R177) -/

theorem State.Laws.partResetBatches (h : s.Laws true access) : s.partResetBatches.Laws false access :=
  (State.discardAll_lawsKept _ (State.faultHeld_lawsKept h)).reply _ _

theorem State.Laws.fullResetPending (h : s.Laws true access) :
    { s with engine := { s.engine with fullReset := true } : State }.Laws false access := by
  have hslot := h.slot
  have hle := Bool.toNat_le s.svc.slot.isWorking
  exact { h with
    slot := by
      change s.svc.probe.isSome.toNat + s.engine.resumed.toNat + 1 + 0 = s.svc.slot.isWorking.toNat
      simp only [Bool.toNat_true] at hslot
      omega }

theorem State.Laws.partResetFull (h : s.Laws true false) : s.partResetFull.Laws false false := by
  have hpending := h.fullResetPending
  unfold State.partResetFull
  dsimp only
  split
  · next hdue => exact hpending.completeReset hdue false
  · exact hpending

end
end Sys2Proof.Machine
end

section
/-! SUPPORT. The commands under the device law: each answers the request in the slot, or leaves it to what it has set going. -/

namespace Sys2Proof.Machine

/-- What a command does to a state that owes the slot its answer: it answers, or leaves the answer to a probe, to a resumed rollback or
to a full reset (R167). -/
abbrev Answers (op : State → State) : Prop := ∀ ⦃s : State⦄, s.Laws true false → (op s).Laws false false

theorem State.reply_answers (r : Result) (q : List Byte) : Answers (State.reply r q) := fun _ h => h.reply r q

theorem State.refuse_answers (r : Result) : Answers (State.refuse r) := State.reply_answers r []

/-! ### The windows -/

section
variable {answer access : Bool} {s : State} {i : WIdx}

/-- A FAULTED window is the one that the engine has halted on (R107). -/
theorem State.Laws.halted_of_faulted (h : s.Laws answer access) (hf : (s.win i).place.isFaulted = true) :
    s.engine.state = .halted ∧ s.engine.context.map (·.window) = some i := by
  obtain ⟨hidle, hcommitting, hrolling, hhalted⟩ := h.work
  have hnot : ¬s.noneFaulted := fun hnone => Bool.false_ne_true ((hnone i).symm.trans hf)
  cases hs : s.engine.state with
  | idle => obtain ⟨-, -, -, -, -, hnone⟩ := hidle hs; exact (hnot hnone).elim
  | committing => exact (hnot (hcommitting hs).1).elim
  | rollingBack => exact (hnot (hrolling hs).1).elim
  | halted =>
    obtain ⟨-, -, -, -, -, g, hg, -, -, hiff⟩ := hhalted hs
    exact ⟨rfl, by rw [hg, Option.map_some, (hiff i).1 hf]⟩

/-- A window without batches, that no held write and no fault context is of, becomes another one without batches. -/
theorem State.Laws.setEmpty (h : s.Laws answer access) {w : Window} (hold : (s.win i).waiting = []) (hopen : w.openBatch = none)
    (hwaiting : w.waiting = []) (hlaw : (s.setWin i w).windowLaw) (hfaulted : w.place.isFaulted = (s.win i).place.isFaulted)
    (hwrite : ∀ x ∈ s.upd.state.heldWrite, x.window ≠ i)
    (hcontext : ∀ c ∈ s.engine.context, s.engine.inHand = none → s.isHeldWindow c.window → c.window ≠ i) :
    (s.setWin i w).Laws answer access := by
  have hsame : (s.setWin i w).win i = w := State.setWin_win_same _ _ _
  have hother : ∀ {j}, j ≠ i → (s.setWin i w).win j = s.win j := fun hj => State.setWin_win_other _ _ _ _ hj.symm
  have hqueued : w.queuedBatch = (s.win i).queuedBatch := by rw [Window.queuedBatch, Window.queuedBatch, hold, hwaiting]
  have hatWork : w.batchAtWork = (s.win i).batchAtWork := by rw [Window.batchAtWork, Window.batchAtWork, hold, hwaiting]
  have heach : ∀ {P : Window → Prop}, P w → (∀ j, P (s.win j)) → ∀ j, P ((s.setWin i w).win j) := fun hw hs j => by
    by_cases hj : j = i
    · rw [hj, hsame]; exact hw
    · rw [hother hj]; exact hs j
  have hqueues := State.win_congr_of_setWin (s := s) (t := s.setWin i w) Window.queuedBatch rfl hqueued
  exact { h with
    windows := hlaw
    batches := heach (P := Window.batchLaw) (by
      rw [Window.batchLaw, hopen, hwaiting]
      exact ⟨⟨List.nodup_nil, nofun⟩, Nat.zero_le 4, nofun, nofun⟩) h.batches
    limits := heach (P := Window.withinLimits) (by
      rw [Window.withinLimits, hopen, hwaiting]
      exact ⟨fun _ => ⟨rfl, rfl⟩, fun f _ => ⟨Nat.zero_le _, nofun⟩⟩) h.limits
    write := fun x hx => by
      rw [hother (hwrite x hx)]
      exact h.write x hx
    queue := h.queue.congr rfl hqueues
    work := h.work.congr rfl (State.win_congr_of_setWin Window.batchAtWork rfl hatWork)
      (State.win_congr_of_setWin (fun v => v.place.isFaulted) rfl hfaulted)
      (fun c hc hh hheld => by rwa [State.isHeldWindow, hother (hcontext c hc hh hheld)])
      fun j _ hq => (hqueues j).trans hq }

theorem State.Laws.install (h : s.Laws answer access) {d : Descriptor} (hfree : (s.win i).place = .free) (hvalid : d.valid)
    (hclear : ∀ k, (s.win k).place.clashes d = false) : (s.install i d).Laws answer access := by
  have hfields : (s.win i).place.heldFields = none := by rw [hfree]; rfl
  refine h.setEmpty ((h.limits i).1 hfields).2 rfl rfl ((State.install_keepsLaws hvalid hclear).windows h.windows)
    (by rw [hfree]; rfl) (fun x hx hxi => ?_) fun c _ _ hheld hci => ?_
  · have hw := h.write x hx
    rw [hxi, hfields] at hw
    cases hw
  · rw [State.isHeldWindow, hci] at hheld
    exact hheld hfields

theorem State.windowSet_answers (a : WindowSetArgs) : Answers (State.windowSet a) := by
  intro s h
  unfold State.windowSet
  split
  · exact h.reply _ _
  · split
    · next hfree =>
      split
      · exact h.reply _ _
      · next d hd =>
        split
        · exact h.reply _ _
        · next hno =>
          split
          · exact h.reply _ _
          · exact (h.install hfree (setDescriptor_valid hd) (State.overlapWith_eq_none.1 hno)).reply _ _
    · exact h.reply _ _

/-- While an answer is owed, a fault context without a batch in hand is that of a FAULTED window (R107, R112, R167). -/
theorem State.Laws.context_faulted (h : s.Laws true access) {c : FaultContext} (hc : s.engine.context = some c)
    (hh : s.engine.inHand = none) : (s.win c.window).place.isFaulted = true := by
  obtain ⟨hidle, hcommitting, -, hhalted⟩ := h.work
  cases hs : s.engine.state with
  | idle =>
    obtain ⟨-, -, -, hnone, -⟩ := hidle hs
    rw [hc] at hnone
    cases hnone
  | committing =>
    obtain ⟨-, hnone, -⟩ := hcommitting hs
    rw [hc] at hnone
    cases hnone
  | rollingBack =>
    have hanswer : true = false := h.resumed_answer (by simp [Engine.resumed, hs, hh])
    cases hanswer
  | halted =>
    obtain ⟨-, -, -, -, -, g, hg, -, -, hiff⟩ := hhalted hs
    rw [Option.mem_def.1 hg] at hc
    cases hc
    exact (hiff _).2 rfl

/-- The window's held write is answered, so that no write of it is held (R15, R37, R114). -/
theorem State.faultHeldOf_heldWrite (i : WIdx) (s : State) : ∀ x ∈ (s.faultHeldOf i).upd.state.heldWrite, x.window ≠ i := by
  intro x hx
  rw [State.faultHeldOf_eq, State.updFaulted] at hx
  cases hs : s.upd.state with
  | held y f t =>
    by_cases hy : y.window = i
    · simp [hs, hy, UpdateState.heldWrite] at hx
    · obtain rfl : y = x := by simpa [hs, hy, UpdateState.heldWrite] using hx
      exact hy
  | idle => simp [hs, UpdateState.heldWrite] at hx
  | requested t => simp [hs, UpdateState.heldWrite] at hx
  | atMemory t => simp [hs, UpdateState.heldWrite] at hx
  | draining t => simp [hs, UpdateState.heldWrite] at hx

/-- A window becomes FREE once it has no batches (R15). -/
theorem State.Laws.freePlace (h : s.Laws true access) (hopen : (s.win i).openBatch = none) (hwaiting : (s.win i).waiting = [])
    (hactive : (s.win i).place.isFaulted = false) (hwrite : ∀ x ∈ s.upd.state.heldWrite, x.window ≠ i) :
    (s.freePlace i).Laws true access := by
  have hlaw := (State.freePlace_lawful i s).windows h.windows
  rw [State.freePlace, State.mapWin_eq_setWin] at hlaw ⊢
  refine h.setEmpty hwaiting hopen hwaiting hlaw hactive.symm hwrite fun c hc hh _ hci => ?_
  have hfaulted := h.context_faulted hc hh
  rw [hci, hactive] at hfaulted
  cases hfaulted

theorem State.discards_win (i : WIdx) (cause : DiscardCause) (s : State) :
    ((s.discardOpen i cause).discardClosed i cause).win i =
      { s.win i with openBatch := none, waiting := (s.win i).waiting.filter (·.state != .closed) } := by
  rw [State.discardClosed_discardOpen]
  exact State.setWin_win_same _ _ _

theorem State.windowDrop_answers (index : Byte) : Answers (State.windowDrop index) := by
  intro s h
  unfold State.windowDrop
  split
  · exact h.reply _ _
  · next i _ =>
    split
    · exact h.reply _ _
    · exact h.reply _ _
    · next d hp =>
      split
      · next hidle =>
        have hwin := (s.faultHeldOf i).discards_win i .windowDropped
        have hsame : (s.faultHeldOf i).win i = s.win i := by rw [State.faultHeldOf_eq]; rfl
        rw [hsame, Window.filter_of_idle hidle] at hwin
        have hupd : (((s.faultHeldOf i).discardOpen i .windowDropped).discardClosed i .windowDropped).upd =
            (s.faultHeldOf i).upd := by rw [State.discardClosed_discardOpen]; rfl
        refine State.Laws.reply (State.Laws.freePlace (State.discardClosed_lawsKept i _ (State.discardOpen_lawsKept i _
          (State.faultHeldOf_lawsKept i h))) (by rw [hwin]) (by rw [hwin]) (by rw [hwin, hp]; rfl) ?_) _ _
        rw [hupd]
        exact State.faultHeldOf_heldWrite i s
      · exact h.reply _ _

theorem State.windowRead_answers (index : Byte) : Answers (State.windowRead index) := by
  intro s h
  unfold State.windowRead
  split
  · exact h.reply _ _
  · split
    · exact h.reply _ _
    · exact h.reply _ _
    · exact h.reply _ _

/-! ### WINDOW_CLEAR (R111 to R114) -/

/-- The one FAULTED window becomes ACTIVE. -/
theorem State.Laws.toActive_noneFaulted (h : s.Laws answer access) (hf : (s.win i).place.isFaulted = true) :
    (s.mapWin i fun w => { w with place := w.place.toActive }).noneFaulted := by
  obtain ⟨hs, hi⟩ := h.halted_of_faulted hf
  obtain ⟨-, -, -, -, -, g, hg, -, -, hiff⟩ := h.work.2.2.2 hs
  intro j
  by_cases hj : i = j
  · subst hj
    rw [State.mapWin_win_same]
    exact Place.toActive_isFaulted _
  · rw [State.mapWin_win_other _ _ _ _ hj, Bool.eq_false_iff]
    intro hfj
    rw [hg, Option.map_some, ← (hiff j).1 hfj] at hi
    exact hj (Option.some.inj hi).symm

theorem State.toActive_congr {α : Type} (P : Window → α) (h : ∀ w : Window, P { w with place := w.place.toActive } = P w)
    (j : WIdx) : P ((s.mapWin i fun w => { w with place := w.place.toActive }).win j) = P (s.win j) :=
  State.win_congr_of_setWin P (w := { s.win i with place := (s.win i).place.toActive }) rfl (h _) j

theorem State.StoreLaws.toActive (h : s.StoreLaws) (i : WIdx) :
    (s.mapWin i fun w => { w with place := w.place.toActive }).StoreLaws :=
  h.setWin (.place (s.win i) (s.win i).place.toActive fun _ hd => Place.toActive_desc (s.win i).place ▸ hd)
    (Place.toActive_heldFields _)
    (fun hl => hl.of_subset (Place.toActive_heldFields _) id (Nat.le_refl _) (List.Subset.refl _))
    rfl rfl

/-- The window is ACTIVE again, and the engine has nothing left to do (R114). -/
theorem State.Laws.clears (h : s.Laws true false) (hf : (s.win i).place.isFaulted = true) :
    { s.mapWin i (fun w => { w with place := w.place.toActive }) with engine := s.engine.quiet : State }.Laws true false := by
  obtain ⟨hs, -⟩ := h.halted_of_faulted hf
  obtain ⟨-, -, -, -, honly, -⟩ := h.work.2.2.2 hs
  have hnone := h.toActive_noneFaulted hf
  have hstore := h.toStoreLaws.toActive i
  have hslot := h.slot
  have hcommit := h.commit
  have hresumed : s.engine.resumed = false := by simp [Engine.resumed, hs]
  have hwork : s.engine.atWork = false := by simp [Engine.atWork, hs]
  rw [hresumed] at hslot
  rw [hwork] at hcommit
  exact { hstore with
    slot := hslot
    collect := h.collect
    queue := h.queue.congr rfl (State.toActive_congr Window.queuedBatch fun _ => rfl)
    work := .of_idle rfl ⟨rfl, rfl, rfl, rfl,
      fun j _ => (State.toActive_congr Window.batchAtWork (fun _ => rfl) j).trans (honly j nofun), hnone⟩
    update := h.update
    cycle := h.cycle
    commit := hcommit
    probe := h.probe
    read := .of_none (h.read.none_of_no_hand (State.atRest_frame (.inr hs)).1) }

theorem State.Laws.abandon (h : s.Laws true false) (hf : (s.win i).place.isFaulted = true) :
    (s.abandon i).Laws false false := by
  have hdiscarded := State.discardClosed_lawsKept i .cleared
    (State.discardOpen_lawsKept i .cleared (State.faultHeldOf_lawsKept i h))
  have hwin := (s.faultHeldOf i).discards_win i .cleared
  have hsame : (s.faultHeldOf i).win i = s.win i := by rw [State.faultHeldOf_eq]; rfl
  have hcleared := hdiscarded.clears (i := i) (by rw [hwin, hsame]; exact hf)
  rw [State.discardClosed_discardOpen, State.faultHeldOf_eq] at hcleared
  unfold State.abandon
  dsimp only
  rw [State.discardClosed_discardOpen, State.faultHeldOf_eq]
  exact hcleared.reply _ _

theorem State.clearAbandon_answers (index : Byte) : Answers (State.clearAbandon index) := by
  intro s h
  unfold State.clearAbandon
  split
  · exact h.reply _ _
  · split
    · exact h.reply _ _
    · exact h.reply _ _
    · next hp => exact h.abandon (by rw [hp]; rfl)

/-- The engine when a rollback is resumed (R112). -/
def Engine.resuming (e : Engine) : Engine := { e with state := .rollingBack, inHand := none, cursor := none, resumedWrites := 0 }

/-- The window is ACTIVE and in hand again; its command has become the resumed rollback, whose first write is owed (R112, R167). -/
theorem State.Laws.resuming (h : s.Laws true false) (hf : (s.win i).place.isFaulted = true) :
    { s.mapWin i (fun w => { w with place := w.place.toActive }) with engine := s.engine.resuming : State }.Laws false true := by
  obtain ⟨hs, -⟩ := h.halted_of_faulted hf
  obtain ⟨-, -, hne, hlen, honly, g, hg, hheld, -, -⟩ := h.work.2.2.2 hs
  have hnone := h.toActive_noneFaulted hf
  have hstore := h.toStoreLaws.toActive i
  have hslot := h.slot
  have hcommit := h.commit
  have hresumed : s.engine.resumed = false := by simp [Engine.resumed, hs]
  have hwork : s.engine.atWork = false := by simp [Engine.atWork, hs]
  rw [hresumed] at hslot
  rw [hwork] at hcommit
  exact { hstore with
    slot := by
      change s.svc.probe.isSome.toNat + 1 + s.engine.fullReset.toNat + 0 = s.svc.slot.isWorking.toNat
      simp only [Bool.toNat_true, Bool.toNat_false] at hslot
      omega
    collect := h.collect
    queue := h.queue.congr rfl (State.toActive_congr Window.queuedBatch fun _ => rfl)
    work := .of_rollingBack rfl ⟨hnone, rfl, hne, hlen, g, hg, nofun, fun _ =>
      ⟨fun hn => hheld ((State.toActive_congr (fun w => w.place.heldFields) (fun w => Place.toActive_heldFields w.place)
          g.window).symm.trans hn),
        fun j _ => (State.toActive_congr Window.batchAtWork (fun _ => rfl) j).trans (honly j nofun)⟩⟩
    update := h.update
    cycle := h.cycle
    commit := by
      change s.arb.ce.isSome.toNat + (s.arb.onPort .ce).isSome.toNat + 1 = 1
      simp only [Bool.toNat_false] at hcommit
      omega
    probe := h.probe
    read := .of_none (h.read.none_of_no_hand (State.atRest_frame (.inr hs)).1) }

/-- The next rollback write is placed (R101). -/
theorem State.Laws.continueRollback (h : s.Laws answer true) (hs : s.engine.state = .rollingBack) :
    s.continueRollback.Laws answer false := by
  obtain ⟨-, -, hne, -⟩ := h.work.2.2.1 hs
  obtain ⟨us, u, hu⟩ : ∃ us u, s.engine.undo = us ++ [u] := ⟨_, _, (List.dropLast_concat_getLast hne).symm⟩
  rw [State.continueRollback_nonempty hu]
  exact h.placeCommit _

theorem State.Laws.resume (h : s.Laws true false) (hf : (s.win i).place.isFaulted = true) : (s.resume i).Laws false false := by
  obtain ⟨-, hi⟩ := h.halted_of_faulted hf
  have hheld := (h.resuming hf).holdCycleRead (i := i) hi
  have hqueued := State.queueImmediate_lawsKept i hheld
  refine hqueued.continueRollback ?_
  obtain ⟨-, -, -, -, -, hengine, -⟩ := State.holdCycleRead_frame i
    { s.mapWin i (fun w => { w with place := w.place.toActive }) with engine := s.engine.resuming : State }
  rw [State.queueImmediate_engine, hengine]
  rfl

theorem State.clearRetry_answers (index : Byte) : Answers (State.clearRetry index) := by
  intro s h
  unfold State.clearRetry
  split
  · exact h.reply _ _
  · split
    · exact h.reply _ _
    · exact h.reply _ _
    · next hp => exact h.resume (by rw [hp]; rfl)

theorem State.undoRead_answers (start : Byte) : Answers (State.undoRead start) := by
  intro s h
  unfold State.undoRead
  split
  · split
    · exact h.reply _ _
    · exact h.reply _ _
  · exact h.reply _ _

end
end Sys2Proof.Machine
end

section
/-! SUPPORT. The batch commands, the settings, the probes and the service link under the device law. -/

namespace Sys2Proof.Machine

/-! ### The batch commands (R36 to R40) -/

theorem State.onActiveHeld_answers (index : Byte) {act : WIdx → State → State} (hact : ∀ i, Answers (act i)) :
    Answers (State.onActiveHeld index act) := by
  intro s h
  unfold State.onActiveHeld
  split
  · exact h.reply _ _
  · split
    · exact h.reply _ _
    · split
      · exact h.reply _ _
      · exact h.reply _ _
    · split
      · exact hact _ h
      · exact h.reply _ _

theorem State.closeOpen_answers (i : WIdx) : Answers (State.closeOpen i) := by
  intro s h
  unfold State.closeOpen
  split
  · exact h.reply _ _
  · exact h.reply _ _
  · exact (State.emptySlot_lawsKept i h).reply _ _
  · next hopen =>
    split
    · next hroom => exact (h.closeBatch hopen (List.cons_ne_nil _ _) hroom _).reply _ _
    · exact h.reply _ _

theorem State.discardTargetOpen_answers (i : WIdx) : Answers (State.discardTargetOpen i) := by
  intro s h
  unfold State.discardTargetOpen
  split
  · exact h.reply _ _
  · exact (State.discardOpen_lawsKept i _ (State.faultHeldOf_lawsKept i h)).reply _ _

theorem State.discardTargetWaiting_answers (i : WIdx) : Answers (State.discardTargetWaiting i) := by
  intro s h
  unfold State.discardTargetWaiting
  split
  · exact h.reply _ _
  · exact (State.discardClosed_lawsKept i _ h).reply _ _

theorem State.discardTargetQueued_answers (i : WIdx) : Answers (State.discardTargetQueued i) := by
  intro s h
  unfold State.discardTargetQueued
  split
  · exact h.reply _ _
  · split
    · exact h.reply _ _
    · exact h.reply _ _
    · exact h.reply _ _
    · exact State.queueImmediate_lawsKept i ((State.discardQueued_lawsKept i _ h).reply _ _)

theorem State.batchList_answers (index : Byte) : Answers (State.batchList index) := by
  intro s h
  unfold State.batchList
  split
  · exact h.reply _ _
  · split
    · exact h.reply _ _
    · split
      · exact h.reply _ _
      · exact h.reply _ _

/-! ### Settings, reports and probes -/

theorem State.setGate_answers (g : Gate) : Answers (State.setGate g) := fun s h =>
  State.Laws.reply (s := { s with engine := { s.engine with gate := g } }) { h with } .ok _

theorem State.timerSet_answers (mode : Option Byte) (period : Option Half) (qa qb : Option Byte) :
    Answers (State.timerSet mode period qa qb) := by
  intro s h
  unfold State.timerSet
  split
  · exact (State.setEpoch_lawsKept
      (fun s => (s.epoch.writeTimer (mode.bind TimerMode.ofCode) period).writeQualify qa qb) h).reply _ _
  · exact h.reply _ _

theorem State.writeLimits_lawsKept (hold : Option Half) (timeout watermark idle : Option Byte) :
    LawsKept (State.writeLimits hold timeout watermark idle) := fun _ _ _ h => { h with }

theorem State.limitsSet_answers (hold : Option Half) (timeout watermark idle : Option Byte) :
    Answers (State.limitsSet hold timeout watermark idle) := by
  intro s h
  unfold State.limitsSet
  split
  · exact (State.writeLimits_lawsKept hold timeout watermark idle h).reply _ _
  · exact h.reply _ _

theorem State.reportsTake_answers : Answers State.reportsTake := fun s h =>
  State.Laws.reply (s := { s with rep := s.rep.removeOldest.reportLoss _ }) { h with } _ _

/-- A probe's read is placed: the command in the slot has become the probe (R139, R140, R167). -/
theorem State.Laws.placeProbe {access : Bool} {s : State} (h : s.Laws true access) (p : Probe) :
    (s.placeProbe p).Laws false access := by
  have hslot := h.slot
  have hprobe := h.probe
  have hle := Bool.toNat_le s.svc.slot.isWorking
  simp only [Bool.toNat_true] at hslot
  exact { h with
    slot := by
      change 1 + s.engine.resumed.toNat + s.engine.fullReset.toNat + 0 = s.svc.slot.isWorking.toNat
      omega
    probe := by
      change 1 + (s.arb.onPort .sl).isSome.toNat = 1
      omega }

theorem State.memoryProbe_answers (view : ProbeView) (addr : Word) : Answers (State.memoryProbe view addr) := by
  intro s h
  have hstaged : ∀ p, (s.probeStaged p).Laws false false := by
    intro p
    unfold State.probeStaged
    split
    · exact h.reply _ _
    · exact h.placeProbe p
  unfold State.memoryProbe
  split
  · split
    · exact h.reply _ _
    · exact hstaged _
  · exact h.reply _ _

/-! ### Dispatch (R168) -/

theorem onEmpty_answers {op : State → State} (hop : Answers op) (p : List Byte) : Answers (onEmpty op p) := by
  unfold onEmpty
  split
  · exact hop
  · exact State.refuse_answers _

theorem onByte_answers {op : Byte → State → State} (hop : ∀ b, Answers (op b)) (p : List Byte) : Answers (onByte op p) := by
  unfold onByte
  split
  · exact hop _
  · exact State.refuse_answers _

theorem onDescriptor_answers (p : List Byte) : Answers (onDescriptor p) := by
  unfold onDescriptor
  split
  · exact State.windowSet_answers _
  · exact State.refuse_answers _

theorem onClear_answers (p : List Byte) : Answers (onClear p) := by
  unfold onClear
  (repeat' split)
  · exact State.clearRetry_answers _
  · exact State.clearAbandon_answers _
  · exact State.refuse_answers _
  · exact State.refuse_answers _

theorem onDiscard_answers (p : List Byte) : Answers (onDiscard p) := by
  unfold onDiscard
  (repeat' split)
  · exact State.onActiveHeld_answers _ State.discardTargetOpen_answers
  · exact State.onActiveHeld_answers _ State.discardTargetWaiting_answers
  · exact State.onActiveHeld_answers _ State.discardTargetQueued_answers
  · exact State.refuse_answers _
  · exact State.refuse_answers _

theorem onGate_answers (p : List Byte) : Answers (onGate p) := by
  unfold onGate
  (repeat' split)
  · exact fun s h => h.reply _ _
  · exact State.setGate_answers _
  · exact State.setGate_answers _
  · exact State.refuse_answers _
  · exact State.refuse_answers _

theorem onTimer_answers (p : List Byte) : Answers (onTimer p) := by
  unfold onTimer
  split
  · exact State.timerSet_answers _ _ _ _
  · exact State.refuse_answers _

theorem onLimits_answers (p : List Byte) : Answers (onLimits p) := by
  unfold onLimits
  (repeat' split)
  · exact State.limitsSet_answers _ _ _ _
  · exact State.refuse_answers _
  · exact State.refuse_answers _

theorem onProbe_answers (p : List Byte) : Answers (onProbe p) := by
  unfold onProbe
  (repeat' split)
  · exact State.memoryProbe_answers _ _
  · exact State.memoryProbe_answers _ _
  · exact State.refuse_answers _
  · exact State.refuse_answers _

theorem onPartReset_answers (p : List Byte) : Answers (onPartReset p) := by
  unfold onPartReset
  (repeat' split)
  · exact fun _ h => h.partResetBatches
  · exact fun _ h => h.partResetFull
  · exact State.refuse_answers _
  · exact State.refuse_answers _

/-- Every row of the command table answers its request, or leaves the answer to what it sets going, whatever the payload. -/
theorem commandTable_answers : ∀ row ∈ commandTable, ∀ p, Answers (row.2 p) := by
  simp only [commandTable, List.forall_mem_cons]
  exact ⟨onEmpty_answers (State.reply_answers _ _), onDescriptor_answers, onByte_answers State.windowDrop_answers,
    onByte_answers State.windowRead_answers, onClear_answers,
    onByte_answers fun i => State.onActiveHeld_answers i State.closeOpen_answers, onDiscard_answers,
    onByte_answers State.batchList_answers, onByte_answers State.undoRead_answers, onGate_answers, onTimer_answers,
    onLimits_answers, onEmpty_answers fun _ h => h.reply _ _, onEmpty_answers fun _ h => h.reply _ _,
    onEmpty_answers State.reportsTake_answers, onProbe_answers, onPartReset_answers, nofun⟩

theorem dispatch_answers (code : Byte) (p : List Byte) : Answers (dispatch code p) := by
  unfold dispatch
  split
  · next row hrow => exact commandTable_answers row (List.mem_of_find?_eq_some hrow) p
  · exact State.refuse_answers _

/-! ### The service link (R158 to R168) -/

section
variable {answer access : Bool} {s : State}

/-- The link transaction becomes one that shifts out no READY response. -/
theorem State.Laws.setLink (h : s.Laws answer access) {l : Option LinkTxn} (hl : ∀ t ∈ l, t.phase.readyFrame = none) :
    { s with svc := { s.svc with link := l } : State }.Laws answer access :=
  { h with collect := fun t ht f hf => by rw [hl t ht] at hf; cases hf }

theorem State.endFrame_lawsKept : LawsKept State.endFrame := by
  intro answer access s h
  unfold State.endFrame
  split
  · next t ht =>
    split
    · exact h.setLink (l := some { t with phase := .frameEnded }) fun u hu => by cases hu; rfl
    · exact h
  · exact h

theorem State.dropRequest_lawsKept : LawsKept State.dropRequest := fun _ _ _ h => { h with }

/-- With the slot IDLE no READY response is being shifted out. -/
theorem State.Laws.readyFrame_none (h : s.Laws answer access) (hidle : s.svc.slot = .idle) :
    ∀ t ∈ s.svc.link, t.phase.readyFrame = none := by
  intro t ht
  cases hf : t.phase.readyFrame with
  | none => rfl
  | some f =>
    have hready := (h.collect t ht f hf).1
    simp [State.reasonResponse, hidle] at hready

/-- A command comes into the slot, and is owed its answer (R167). -/
theorem State.Laws.slotTaken (h : s.Laws false access) (hidle : s.svc.slot = .idle) (tag code : Byte) (p : List Byte) :
    { s with svc := { s.svc with slot := .working tag code p } : State }.Laws true access := by
  have hslot := h.slot
  rw [hidle] at hslot
  exact { h with
    slot := by
      change s.svc.probe.isSome.toNat + s.engine.resumed.toNat + s.engine.fullReset.toNat + 1 = 1
      simp only [Slot.isWorking, Bool.toNat_false] at hslot
      omega
    collect := fun t ht f hf => by rw [h.readyFrame_none hidle t ht] at hf; cases hf }

theorem State.Laws.takeRequest (h : s.Laws false false) {op : State → State} (hop : Answers op) (tag code : Byte)
    (p : List Byte) : (s.takeRequest tag code p op).Laws false false := by
  have hframe := State.endFrame_lawsKept h
  unfold State.takeRequest
  dsimp only
  split
  · next hidle => exact hop (hframe.slotTaken hidle tag code p)
  · exact State.dropRequest_lawsKept hframe

theorem State.badFrame_lawsKept (tag : Byte) : LawsKept (State.badFrame tag) := by
  intro answer access s h
  have hframe := State.endFrame_lawsKept h
  unfold State.badFrame
  dsimp only
  split
  · next hidle =>
    have hslot := hframe.slot
    rw [hidle] at hslot
    exact { hframe with
      slot := hslot
      collect := fun t ht f hf => by rw [hframe.readyFrame_none hidle t ht] at hf; cases hf }
  · exact State.dropRequest_lawsKept hframe

theorem State.Laws.decideFrame (h : s.Laws false false) (f : RequestFrame) : (s.decideFrame f).Laws false false := by
  unfold State.decideFrame
  split
  · exact h.takeRequest (dispatch_answers _ _) _ _ _
  · exact State.badFrame_lawsKept _ h

theorem State.Laws.requestFrame (h : s.Laws false false) (frame : List Byte) : (s.requestFrame frame).Laws false false := by
  unfold State.requestFrame
  split
  · split
    · exact h.decideFrame _
    · exact State.dropRequest_lawsKept (State.endFrame_lawsKept h)
  · exact h

theorem State.dropOpenRequest_lawsKept : LawsKept State.dropOpenRequest := by
  intro answer access s h
  unfold State.dropOpenRequest
  split
  · split
    · exact h
    · exact State.dropRequest_lawsKept (State.endFrame_lawsKept h)
  · exact h

/-- The laws do not speak of the pins. -/
theorem State.setPins_lawsKept (p : State → Pins) : LawsKept fun s => { s with pins := p s } := fun _ _ _ h => { h with }

theorem State.ssnFalls_lawsKept : LawsKept State.ssnFalls := by
  intro answer access s h
  unfold State.ssnFalls
  split
  · exact h
  · have hlink := h.setLink (l := some ⟨s.statusByte, .kindPending⟩) fun t ht => by cases ht; rfl
    exact { hlink with }

/-- The response frame of a collect is that of the slot (R164). -/
theorem State.beginCollect_lawsKept : LawsKept State.beginCollect := by
  intro answer access s h
  unfold State.beginCollect
  split
  · exact { h with
      collect := fun t ht f hf => by
        cases ht
        cases hready : s.reasonResponse with
        | false => rw [hready] at hf; cases hf
        | true =>
          rw [hready] at hf
          cases hf
          exact ⟨hready, rfl⟩ }
  · exact h

theorem State.Laws.decideAtRise (h : s.Laws false false) (received : List Byte) :
    (s.decideAtRise received).Laws false false := by
  unfold State.decideAtRise
  (repeat' split)
  · exact State.beginCollect_lawsKept h
  · exact h.decideFrame _
  · exact State.badFrame_lawsKept _ h
  · exact State.dropRequest_lawsKept (State.endFrame_lawsKept h)
  · exact h
  · exact h

theorem State.ssnHigh_lawsKept : LawsKept State.ssnHigh := fun _ _ _ h => { h with collect := nofun }

/-- A collect that has shifted out its READY response empties the slot as the transaction ends (R165). -/
theorem State.Laws.endCollect (h : s.Laws answer access) (received : List Byte) :
    (s.endCollect received).ssnHigh.Laws answer access := by
  unfold State.endCollect
  split
  · next t ht =>
    split
    · next frame hphase =>
      split
      · have hready := (h.collect t ht frame (by rw [hphase]; rfl)).1
        have hslot := h.slot
        have hworking : s.svc.slot.isWorking = false := by
          cases hs : s.svc.slot with
          | working tag code p => simp [State.reasonResponse, hs] at hready
          | idle => rfl
          | ready tag r p => rfl
        rw [hworking] at hslot
        exact { h with slot := hslot, collect := nofun }
      · exact State.ssnHigh_lawsKept h
    · exact State.ssnHigh_lawsKept h
  · exact State.ssnHigh_lawsKept h

theorem State.Laws.ssnRise (h : s.Laws false false) (received : List Byte) : (s.ssnRise received).Laws false false := by
  unfold State.ssnRise
  split
  · exact (h.decideAtRise received).endCollect received
  · exact h

end
end Sys2Proof.Machine
end

section
/-! O59: the device law is kept by every step and holds at power-on. -/

namespace Sys2Proof.Machine

/-- An event keeps the device law when its own effect does. -/
theorem event_keepsDeviceLaw {f : State → State} (hf : ∀ ⦃s⦄, s.Laws false false → (f s).Laws false false) {s t : State}
    (hs : s.Laws false false) (h : event f s = .next t) : t.Laws false false := by
  rw [event_next] at h
  cases h
  split
  · exact hs
  · exact State.judgeAttn_lawsKept (hf hs.settle)

/-- A service command's row keeps the device law when its act answers the request. -/
theorem request_keepsDeviceLaw {op : State → State} (hop : Answers op) {tag code : Byte} {p : List Byte} {s t : State}
    (hs : s.Laws false false) (h : event (State.takeRequest tag code p op) s = .next t) : t.Laws false false :=
  event_keepsDeviceLaw (fun _ hs => hs.takeRequest hop tag code p) hs h

/-- A row that is one thing while RESETN is asserted and an event otherwise keeps the device law when both do. -/
theorem rowInReset_keepsDeviceLaw {f g : State → State} (hg : LawsKept g)
    (hf : ∀ ⦃s⦄, s.Laws false false → (f s).Laws false false)
    {s t : State} (hs : s.Laws false false) (h : (if s.pins.resetn then .next (g s) else event f s) = .next t) :
    t.Laws false false := by
  split at h
  · cases h; exact hg hs
  · exact event_keepsDeviceLaw hf hs h

/-- Whatever command it carries out, the device keeps its law. -/
theorem exec_keepsDeviceLaw (c : Instr) {s t : State} (hs : s.Laws false false) (h : exec c s = .next t) :
    t.Laws false false := by
  cases c with
  | powerOnReset =>
    cases h
    exact .powerOn _ _ _ _
  | resetnDeasserted =>
    simp only [exec, execResetnDeasserted] at h
    split at h <;> cases h
    · exact State.judgeAttn_lawsKept (State.leaveReset_lawsKept hs)
    · exact hs
  | urstnAsserted =>
    exact rowInReset_keepsDeviceLaw (State.setPins_lawsKept fun s => { s.pins with urstn := true })
      (fun _ hs => State.updateReset_lawsKept hs) hs h
  | urstnDeasserted =>
    exact rowInReset_keepsDeviceLaw (State.setPins_lawsKept fun s => { s.pins with urstn := false })
      (fun _ hs => State.setPins_lawsKept (fun s => { s.pins with urstn := false }) hs) hs h
  | crstnAsserted =>
    exact rowInReset_keepsDeviceLaw (State.setPins_lawsKept fun s => { s.pins with crstn := true })
      (fun _ hs => State.cycleReset_lawsKept hs) hs h
  | crstnDeasserted =>
    exact rowInReset_keepsDeviceLaw (State.setPins_lawsKept fun s => { s.pins with crstn := false })
      (fun _ hs => State.setPins_lawsKept (fun s => { s.pins with crstn := false }) hs) hs h
  | updateTransactionTaken r =>
    exact rowInReset_keepsDeviceLaw (g := State.presentUpdate r) (fun _ _ _ hs => { hs with })
      (fun _ hs => State.requestUpdate_lawsKept r hs) hs h
  | heldWriteReconsidered =>
    simp only [exec, execHeldWriteReconsidered] at h
    split at h <;> cases h
    · exact hs
    · exact State.judgeAttn_lawsKept (State.settleWrite_lawsKept hs)
  | writeHoldExpired => exact event_keepsDeviceLaw (fun _ hs => State.holdRunsOut_lawsKept hs) hs h
  | cycleTransactionTaken r =>
    exact rowInReset_keepsDeviceLaw (g := State.presentCycle r) (fun _ _ _ hs => { hs with })
      (fun _ hs => State.requestCycle_lawsKept r hs) hs h
  | qualifyStart line =>
    exact rowInReset_keepsDeviceLaw (State.lineInReset_lawsKept line true) (fun _ hs => State.lineRises_lawsKept line hs) hs h
  | pulseDropped line =>
    exact rowInReset_keepsDeviceLaw (State.lineInReset_lawsKept line false) (fun _ hs => State.lineFalls_lawsKept line hs) hs h
  | pulseAccepted line => exact event_keepsDeviceLaw (fun _ hs => State.lineQualifies_lawsKept line hs) hs h
  | periodEnd => exact event_keepsDeviceLaw (fun _ hs => State.periodEnds_lawsKept hs) hs h
  | commitStart => exact event_keepsDeviceLaw (fun _ hs => State.startCommit_lawsKept hs) hs h
  | grant => exact event_keepsDeviceLaw (fun _ hs => State.grantNext_lawsKept hs) hs h
  | memoryAnswer ans => exact event_keepsDeviceLaw (fun _ hs => hs.endAccess _) hs h
  | accessTimeout => exact event_keepsDeviceLaw (fun _ hs => hs.timeOut) hs h
  | lateAnswer ans => cases h; exact hs
  | fullResetComplete =>
    simp only [exec, execFullResetComplete] at h
    split at h <;> cases h
    · exact hs
    · exact State.judgeAttn_lawsKept hs.settleWork
  | idleTimerRunOut => exact event_keepsDeviceLaw (fun _ hs => State.idleRunsOut_lawsKept hs) hs h
  | linkTransactionStart =>
    exact rowInReset_keepsDeviceLaw (State.setPins_lawsKept fun s => { s.pins with ssn := true })
      (fun _ hs => State.ssnFalls_lawsKept hs) hs h
  | requestFrameDecided frame => exact event_keepsDeviceLaw (fun _ hs => hs.requestFrame frame) hs h
  | requestDropped => exact event_keepsDeviceLaw (fun _ hs => State.dropOpenRequest_lawsKept hs) hs h
  | collect => exact event_keepsDeviceLaw (fun _ hs => State.beginCollect_lawsKept hs) hs h
  | ssnRises received bits =>
    exact rowInReset_keepsDeviceLaw State.ssnHigh_lawsKept (fun _ hs => hs.ssnRise received) hs h
  | ident tag => exact request_keepsDeviceLaw (State.reply_answers _ _) hs h
  | windowSet tag args => exact request_keepsDeviceLaw (State.windowSet_answers args) hs h
  | windowDrop tag index => exact request_keepsDeviceLaw (State.windowDrop_answers index) hs h
  | windowRead tag index => exact request_keepsDeviceLaw (State.windowRead_answers index) hs h
  | windowClearRetry tag index => exact request_keepsDeviceLaw (State.clearRetry_answers index) hs h
  | windowClearAbandon tag index => exact request_keepsDeviceLaw (State.clearAbandon_answers index) hs h
  | batchClose tag index =>
    exact request_keepsDeviceLaw (State.onActiveHeld_answers index State.closeOpen_answers) hs h
  | batchDiscardOpen tag index =>
    exact request_keepsDeviceLaw (State.onActiveHeld_answers index State.discardTargetOpen_answers) hs h
  | batchDiscardWaiting tag index =>
    exact request_keepsDeviceLaw (State.onActiveHeld_answers index State.discardTargetWaiting_answers) hs h
  | batchDiscardQueued tag index =>
    exact request_keepsDeviceLaw (State.onActiveHeld_answers index State.discardTargetQueued_answers) hs h
  | batchList tag index => exact request_keepsDeviceLaw (State.batchList_answers index) hs h
  | undoRead tag start => exact request_keepsDeviceLaw (State.undoRead_answers start) hs h
  | gateHold tag | gateOpen tag => exact request_keepsDeviceLaw (State.setGate_answers _) hs h
  | gateRead tag => exact request_keepsDeviceLaw (fun _ hs => hs.reply _ _) hs h
  | timerSetMode _ _ _ _ _ | timerSetPeriod _ _ _ _ | timerSetQualifyA _ _ _ | timerSetQualifyB _ _ | timerSettingsRead _ =>
    exact request_keepsDeviceLaw (State.timerSet_answers _ _ _ _) hs h
  | limitsSetWriteHoldLimit _ _ _ _ _ | limitsSetMemoryAccessTimeout _ _ _ _ | limitsSetWatermark _ _ _
  | limitsSetIdleTime _ _ => exact request_keepsDeviceLaw (State.limitsSet_answers _ _ _ _) hs h
  | limitsRead tag => exact request_keepsDeviceLaw (fun _ hs => hs.reply _ _) hs h
  | countersRead tag => exact request_keepsDeviceLaw (fun _ hs => hs.reply _ _) hs h
  | reportsTake tag => exact request_keepsDeviceLaw State.reportsTake_answers hs h
  | memoryProbeMemory tag addr | memoryProbeUpdate tag addr =>
    exact request_keepsDeviceLaw (State.memoryProbe_answers _ addr) hs h
  | partResetBatches tag => exact request_keepsDeviceLaw (fun _ hs => hs.partResetBatches) hs h
  | partResetFull tag => exact request_keepsDeviceLaw (fun _ hs => hs.partResetFull) hs h

theorem State.microsecond_lawsKept : LawsKept State.microsecond := fun _ _ _ h =>
  State.judgeAttn_lawsKept (State.elapse_lawsKept 1 h)

theorem idleStep_keepsDeviceLaw {s t : State} (hs : s.Laws false false) (h : idleStep s = .next t) : t.Laws false false := by
  unfold idleStep at h
  split at h
  · cases h; exact State.microsecond_lawsKept hs
  · split at h
    · cases h; exact State.judgeAttn_lawsKept hs.settle
    · split at h
      · exact exec_keepsDeviceLaw _ hs h
      · cases h; exact State.microsecond_lawsKept hs

theorem step_keepsDeviceLaw {s t : State} (hs : s.Laws false false) (h : step s = .next t) : t.Laws false false := by
  unfold step at h
  split at h
  · next c rest _ => exact exec_keepsDeviceLaw c (s := { s with pending := rest }) { hs with } h
  · exact idleStep_keepsDeviceLaw hs h

/-- Settles O59: the laws are carried through every operation together with what is owing on the way, an answer of the command in the
slot and the next access of the engine; before and after a step nothing is owing, and the power-on values satisfy the laws. -/
theorem deviceLawKept : Obligations.DeviceLawKept :=
  ⟨fun s t hs h => t.deviceLaw_iff.2 (step_keepsDeviceLaw (s.deviceLaw_iff.1 hs) h),
    State.reset.deviceLaw_iff.2 (.powerOn _ _ _ _)⟩

end Sys2Proof.Machine
end

section
/-! SUPPORT. The rollback (R101 to R106, R113): the write of a record that ends DONE, and the write that fails, each with a batch in hand
and in a rollback that WINDOW_CLEAR has resumed. -/

namespace Sys2Proof.Machine

/-! ### The end of a rollback write (R102, R106) -/

section
variable {s : State}

theorem State.endCommitAccess_written (hs : s.engine.state = .rollingBack) (data : Quad Byte) :
    s.endCommitAccess (.done data) = s.rollbackWriteDone := by
  simp only [State.endCommitAccess, hs]

theorem State.endCommitAccess_notWritten (hs : s.engine.state = .rollingBack) (how : MemFailure) :
    s.endCommitAccess (.failed how) = s.failRollback := by
  simp only [State.endCommitAccess, hs]

theorem exec_memoryAnswer_rollback (hby : s.accessBy .ce) (hs : s.engine.state = .rollingBack) (data : Quad Byte) :
    exec (.memoryAnswer (.done data)) s = .next s.portFreed.rollbackWriteDone.judgeAttn := by
  rw [exec_memoryAnswer hby.1, State.endAccess_of_ce hby.2, ← State.endCommitAccess_written (s := s.portFreed) hs data]
  rfl

theorem State.endAccess_failedRollback (hby : s.accessBy .ce) (hs : s.engine.state = .rollingBack) (how : MemFailure) :
    s.endAccess (.failed how) = s.portFreed.failRollback :=
  (State.endAccess_of_ce hby.2 _).trans (State.endCommitAccess_notWritten (s := s.portFreed) hs how)

end

/-! ### The answer after a held read has been seen to -/

section
variable {tag code : Byte} {p : List Byte} {s : State}

theorem State.releaseCycleRead_setEngine (i : WIdx) (e : Engine) (s : State) :
    { s.releaseCycleRead i with engine := e } = State.releaseCycleRead i { s with engine := e } := by
  rw [State.releaseCycleRead_congr (s := s) (t := { s with engine := e }) i rfl rfl]
  exact congrArg (fun t : State => { t with engine := e }) (State.releaseCycleRead_congr (s := s) i rfl rfl)

theorem State.releaseCycleRead_answered (i : WIdx) (hslot : s.svc.slot = .working tag code p) (r : Result) (q : List Byte) :
    (s.releaseCycleRead i).reply r q =
      State.releaseCycleRead i { s with svc := { s.svc with slot := .ready tag r q } } := by
  rw [State.releaseCycleRead_congr (s := s) (t := { s with svc := { s.svc with slot := .ready tag r q } }) i rfl rfl]
  refine (congrArg (State.reply r q) (State.releaseCycleRead_congr (s := s) i rfl rfl)).trans ?_
  exact State.reply_working r q _ tag code p hslot

theorem State.faultCycleRead_answered (i : WIdx) (hslot : s.svc.slot = .working tag code p) (r : Result) (q : List Byte) :
    (s.faultCycleRead i).reply r q = State.faultCycleRead i { s with svc := { s.svc with slot := .ready tag r q } } := by
  rw [State.faultCycleRead_congr (s := s) (t := { s with svc := { s.svc with slot := .ready tag r q } }) i rfl]
  refine (congrArg (State.reply r q) (State.faultCycleRead_congr (s := s) i rfl)).trans ?_
  exact State.reply_working r q _ tag code p hslot

end

/-! ### A record written back (R102, R103, R113) -/

/-- The engine after the newest record of its log has been written back under a fault context, with the rest of the log (R102). -/
def Engine.writtenBack (c : FaultContext) (us : List UndoRecord) (g : Engine) : Engine :=
  { g with
    undo := us, context := some { c with rolledBack := c.rolledBack + 1 }
    resumedWrites := if g.inHand = none then g.resumedWrites + 1 else g.resumedWrites }

section
variable {c : FaultContext} {us : List UndoRecord} {r : UndoRecord} {s : State}

/-- The newest record leaves the log and is counted, and the rollback goes on with the rest. -/
theorem State.rollbackWriteDone_eq (hc : s.engine.context = some c) (hu : s.engine.undo = us ++ [r]) :
    s.rollbackWriteDone = State.continueRollback { s with engine := s.engine.writtenBack c us } := by
  simp only [State.rollbackWriteDone, Engine.writtenBack, hc, hu, List.dropLast_concat, Option.map_some,
    Option.isNone_iff_eq_none]

/-- With records left, the write of the new newest one is placed (R102). -/
theorem State.rollbackWriteDone_next {r2 : UndoRecord} (hc : s.engine.context = some c)
    (hu : s.engine.undo = us ++ [r, r2]) :
    s.rollbackWriteDone = State.placeCommit (.write r.addr (quadData r.old))
      { s with engine := s.engine.writtenBack c (us ++ [r]) } := by
  rw [State.rollbackWriteDone_eq hc (us := us ++ [r]) (by simpa using hu)]
  exact State.continueRollback_nonempty rfl

/-- With the log empty, the rollback completes (R102). -/
theorem State.rollbackWriteDone_last (hc : s.engine.context = some c) (hu : s.engine.undo = [r]) :
    s.rollbackWriteDone = State.completeRollback { s with engine := s.engine.writtenBack c [] } := by
  rw [State.rollbackWriteDone_eq hc (us := []) hu]
  exact State.continueRollback_nil rfl

/-- The batch in hand leaves as ABORTED, its memory restored (R103). -/
theorem State.rollbackWriteDone_restores {h : BatchInHand} {b : WaitBatch} {ws : List WaitBatch}
    (hc : s.engine.context = some c) (hu : s.engine.undo = [r]) (hh : s.engine.inHand = some h)
    (hw : (s.win h.window).waiting = b :: ws) (hb : b.state = .rollingBack) :
    s.rollbackWriteDone = State.queueImmediate h.window (State.releaseCycleRead h.window
      (s.replaced h.window
        { s.win h.window with
          waiting := ws
          counters := { (s.win h.window).counters with batchesAborted := satInc (s.win h.window).counters.batchesAborted } }
        s.engine.quiet (s.rep.take (.batchAborted c.window c.id c.addr c.step (c.rolledBack + 1) .restored)))) := by
  rw [State.rollbackWriteDone_last hc hu,
    State.completeRollback_inHand (s := { s with engine := s.engine.writtenBack c [] }) rfl hh hw hb]
  rfl

/-- A resumed rollback completes, and its command is answered with the records that it has written back (R113). -/
theorem State.completeRollback_answered {tag code : Byte} {p : List Byte} (hc : s.engine.context = some c)
    (hx : s.engine.inHand = none) (hslot : s.svc.slot = .working tag code p) :
    s.completeRollback = State.releaseCycleRead c.window { s with
      engine := s.engine.quiet
      rep := s.rep.take (.batchAborted c.window c.id c.addr c.step c.rolledBack .restoredOnRetry)
      svc := { s.svc with slot := .ready tag .ok [num8 s.engine.resumedWrites] } } := by
  rw [State.completeRollback_resumed hc hx, State.releaseCycleRead_setEngine]
  exact State.releaseCycleRead_answered c.window (by exact hslot) _ _

theorem State.rollbackWriteDone_answered {tag code : Byte} {p : List Byte} (hc : s.engine.context = some c)
    (hu : s.engine.undo = [r]) (hx : s.engine.inHand = none) (hslot : s.svc.slot = .working tag code p) :
    s.rollbackWriteDone = State.releaseCycleRead c.window { s with
      engine := s.engine.quiet
      rep := s.rep.take (.batchAborted c.window c.id c.addr c.step (c.rolledBack + 1) .restoredOnRetry)
      svc := { s.svc with slot := .ready tag .ok [num8 (s.engine.resumedWrites + 1)] } } := by
  rw [State.rollbackWriteDone_last hc hu,
    State.completeRollback_answered (s := { s with engine := s.engine.writtenBack c [] }) rfl hx hslot]
  simp only [Engine.writtenBack, if_pos hx]
  rfl

end

/-- Settles O30: with records left the next one is written; without, the rollback completes, by R103 with a batch in hand and by R113
for a resumed one. -/
theorem rollbackWriteDone : Obligations.RollbackWriteDone := by
  refine ⟨?_, ?_, ?_⟩
  · intro c us r r2 data s hby hs hc hu
    rw [exec_memoryAnswer_rollback hby hs, State.rollbackWriteDone_next (s := s.portFreed) hc hu]
    rfl
  · intro c h b ws r data s hby hs hc hu hh hw hb
    rw [exec_memoryAnswer_rollback hby hs, State.rollbackWriteDone_restores (s := s.portFreed) hc hu hh hw hb]
    rfl
  · intro c tag code payload r data s hby hs hc hu hx hslot
    rw [exec_memoryAnswer_rollback hby hs, State.rollbackWriteDone_answered (s := s.portFreed) hc hu hx hslot]
    rfl

/-! ### A failed rollback write (R106, R113) -/

section
variable {c : FaultContext} {s : State}

/-- A resumed rollback fails, with what the discard of its window's QUEUED batch leaves: the command is answered with the residue count
(R113). -/
theorem State.failRollback_answered {w : Window} {g : Engine} {r : ReportUnit} {tag code : Byte} {p : List Byte}
    (hc : s.engine.context = some c) (hx : s.engine.inHand = none) (hslot : s.svc.slot = .working tag code p)
    (hdiscard : s.discardQueued c.window .cleared = s.replaced c.window w g r) :
    s.failRollback = State.faultCycleRead c.window
      { s.replaced c.window (w.faultedWith w.counters w.waiting) g.halted
          (r.take (.windowFaulted c.window c.id s.engine.undo.length)) with
        svc := { s.svc with slot := .ready tag .memoryError [num8 s.engine.undo.length] } } := by
  rw [State.failRollback_resumed hc hx, hdiscard, State.halt_replaced, State.record_replaced]
  exact State.faultCycleRead_answered c.window (by exact hslot) _ _

/-- With CLOSED batches only there is no QUEUED batch to discard. -/
theorem State.discardQueued_of_closed {i : WIdx} (cause : DiscardCause) (h : allClosed (s.win i).waiting) :
    s.discardQueued i cause = s.replaced i (s.win i) s.engine s.rep := by
  simp only [State.discardQueued, Window.queuedBatch_of_closed h, State.replaced, State.setWin_win_self]

theorem Window.faultedWith_active {w : Window} {d : Descriptor} (hp : w.place = .active d) (counters : WindowCounters)
    (ws : List WaitBatch) :
    w.faultedWith counters ws = { w with place := .faulted d, counters := counters, waiting := ws } := by
  simp only [Window.faultedWith, hp, Place.toFaulted]

end

/-- Settles O31: R106 with a batch in hand, and R113 for a resumed rollback, whose window may have a QUEUED batch. -/
theorem rollbackWriteFails : Obligations.RollbackWriteFails := by
  refine ⟨?_, ?_, ?_⟩
  · intro how c h d b ws s hby hs hc hh hp hw hb
    rw [State.endAccess_failedRollback hby hs, State.failRollback_inHand (s := s.portFreed) hc hh hw (.inr hb),
      Window.faultedWith_active (w := s.portFreed.win h.window) hp]
    rfl
  · intro how c d tag code payload s hby hs hc hx hp hclosed hslot
    rw [State.endAccess_failedRollback hby hs, State.failRollback_answered (s := s.portFreed) hc hx hslot
      (State.discardQueued_of_closed .cleared hclosed), Window.faultedWith_active (w := s.portFreed.win c.window) hp]
    rfl
  · intro how c d b ws tag code payload s hby hs hc hx hp hw hb hslot
    rw [State.endAccess_failedRollback hby hs, State.failRollback_answered (s := s.portFreed) hc hx hslot
      (State.discardQueued_head .cleared hw hb), Window.faultedWith_active (by exact hp)]
    rfl

end Sys2Proof.Machine
end

section
/-! SUPPORT. WINDOW_CLEAR (R111, R112, R114, R125): its checks, the rollback that RETRY resumes, and what ABANDON leaves. -/

namespace Sys2Proof.Machine

/-! ### The checks (R111) -/

section
variable {index : Byte} {i : WIdx} {s : State}

/-- Both actions are refused alike where they are refused by what the Window Table holds. -/
theorem windowClear_refused {r : Result} (tag : Byte) (h : s.takesCommands)
    (hretry : ∀ t : State, (∀ i, t.win i = s.win i) → t.clearRetry index = t.refuse r)
    (habandon : ∀ t : State, (∀ i, t.win i = s.win i) → t.clearAbandon index = t.refuse r) :
    exec (.windowClearRetry tag index) s = .next (State.answered tag r [] s) ∧
      exec (.windowClearAbandon tag index) s = .next (State.answered tag r [] s) :=
  ⟨event_takeRequest_only_answered h (hretry _ fun _ => rfl), event_takeRequest_only_answered h (habandon _ fun _ => rfl)⟩

theorem windowClear_badIndex (tag : Byte) (h : s.takesCommands) (hi : windowIndex index = none) :
    exec (.windowClearRetry tag index) s = .next (State.answered tag .badArgument [] s) ∧
      exec (.windowClearAbandon tag index) s = .next (State.answered tag .badArgument [] s) :=
  windowClear_refused tag h (fun _ _ => by simp only [State.clearRetry, hi]) fun _ _ => by simp only [State.clearAbandon, hi]

theorem windowClear_free (tag : Byte) (h : s.takesCommands) (hi : windowIndex index = some i)
    (hp : (s.win i).place = .free) :
    exec (.windowClearRetry tag index) s = .next (State.answered tag .noWindow [] s) ∧
      exec (.windowClearAbandon tag index) s = .next (State.answered tag .noWindow [] s) :=
  windowClear_refused tag h (fun _ hw => by simp only [State.clearRetry, hi, hw, hp])
    fun _ hw => by simp only [State.clearAbandon, hi, hw, hp]

theorem windowClear_active {d : Descriptor} (tag : Byte) (h : s.takesCommands) (hi : windowIndex index = some i)
    (hp : (s.win i).place = .active d) :
    exec (.windowClearRetry tag index) s = .next (State.answered tag .notFaulted [] s) ∧
      exec (.windowClearAbandon tag index) s = .next (State.answered tag .notFaulted [] s) :=
  windowClear_refused tag h (fun _ hw => by simp only [State.clearRetry, hi, hw, hp])
    fun _ hw => by simp only [State.clearAbandon, hi, hw, hp]

/-! ### The actions on a FAULTED window (R112, R114) -/

variable {d : Descriptor}

/-- The window is ACTIVE and in hand again, and the write of the newest residue record is placed. -/
theorem State.clearRetry_faulted {us : List UndoRecord} {r : UndoRecord} (hi : windowIndex index = some i)
    (hp : (s.win i).place = .faulted d) (hu : s.engine.undo = us ++ [r]) :
    s.clearRetry index = State.placeCommit (.write r.addr (quadData r.old)) (State.queueImmediate i (State.holdCycleRead i
      { s.setWin i { s.win i with place := .active d } with engine := s.engine.resuming })) := by
  simp only [State.clearRetry, hi, hp, State.resume, State.mapWin_eq_setWin, Place.toActive]
  refine State.continueRollback_nonempty (us := us) ?_
  rw [State.queueImmediate_engine]
  simp only [State.holdCycleRead_frame]
  exact hu

/-- The residue and the batches of the window are given up, and the engine is IDLE. -/
theorem State.clearAbandon_faulted (hi : windowIndex index = some i) (hp : (s.win i).place = .faulted d)
    (hclosed : allClosed (s.win i).waiting) :
    s.clearAbandon index = State.reply .ok [num8 (discardRecords i .cleared (s.win i)).length]
      { s.setWin i ⟨.active d, (s.win i).counters, none, []⟩ with
        upd := s.updFaulted i
        rep := (discardRecords i .cleared (s.win i)).foldl ReportUnit.take s.rep
        engine := s.engine.quiet } := by
  have hwin : ∀ (u : UpdateUnit) (e : Engine), State.win { s with upd := u, engine := e } i = s.win i := fun _ _ => rfl
  simp only [State.clearAbandon, hi, hp, State.abandon, State.faultHeldOf_eq, State.discardClosed_discardOpen, hwin,
    discardRecords_length, Window.filter_of_idle hclosed]
  congr 1
  simp [State.mapWin, State.setWin, State.win, Place.toActive, Engine.quiet]

end

/-- Settles O51: the checks in their order, and the two actions on the FAULTED window. -/
theorem windowClear : Obligations.WindowClear := by
  refine ⟨?_, ?_, ?_, ?_, ?_⟩
  · intro tag index s h hi
    exact windowClear_badIndex tag h (windowIndex_eq_none hi)
  · intro tag index i s h hi hp
    exact windowClear_free tag h (windowIndex_eq_some hi) hp
  · intro tag index i d s h hi hp
    exact windowClear_active tag h (windowIndex_eq_some hi) hp
  · intro tag index i d us r s h hi hp hu
    refine (event_takeRequest _ _ _ _ _ h).trans ?_
    change Host.Outcome.next ((s.inSlot tag 0x13 [index, 0x01]).clearRetry index).judgeAttn = _
    rw [State.clearRetry_faulted (s := s.inSlot tag 0x13 [index, 0x01]) (windowIndex_eq_some hi) hp hu]
    rfl
  · intro tag index i d s h hi hp hclosed
    exact event_takeRequest_answered h rfl
      (State.clearAbandon_faulted (s := s.inSlot tag 0x13 [index, 0x02]) (windowIndex_eq_some hi) hp hclosed)

end Sys2Proof.Machine
end

section
/-! O60: what the device law says of a FAULTED window, of the undo log and of the commit queue (R80, R89, R107, R124). -/

namespace Sys2Proof.Machine

section
variable {answer access : Bool} {s : State}

/-- A HALTED engine has a FAULTED window, that of its fault context (R107). -/
theorem State.Laws.faulted_of_halted (h : s.Laws answer access) (hs : s.engine.state = .halted) :
    ∃ i : WIdx, (s.win i).place.isFaulted = true := by
  obtain ⟨-, -, -, hhalted⟩ := h.work
  obtain ⟨-, -, -, -, -, c, -, -, -, hiff⟩ := hhalted hs
  exact ⟨c.window, (hiff c.window).2 rfl⟩

theorem State.Laws.faulted_unique (h : s.Laws answer access) {i j : WIdx} (hi : (s.win i).place.isFaulted = true)
    (hj : (s.win j).place.isFaulted = true) : i = j :=
  Option.some.inj ((h.halted_of_faulted hi).2.symm.trans (h.halted_of_faulted hj).2)

theorem State.Laws.undo_of_idle (h : s.Laws answer access) (hs : s.engine.state = .idle) : s.engine.undo = [] := by
  obtain ⟨hidle, -⟩ := h.work
  obtain ⟨-, -, hundo, -⟩ := hidle hs
  exact hundo

/-- In a commit the log has at most a record for each entry of the batch in hand, and a batch at most 64 entries (R7, R89). -/
theorem State.Laws.undo_length (h : s.Laws answer access) : s.engine.undo.length ≤ 64 := by
  obtain ⟨-, hcommitting, hrolling, hhalted⟩ := h.work
  cases hs : s.engine.state with
  | idle => simp [h.undo_of_idle hs]
  | committing =>
    obtain ⟨-, -, x, -, -, c, -, b, hb, -, -, hundo⟩ := hcommitting hs
    calc s.engine.undo.length = (s.engine.undo.map (·.addr)).length := (List.length_map _).symm
      _ ≤ b.entries.length := by
        rw [hundo, List.length_map]
        exact List.length_take_le' _ _
      _ ≤ 64 := h.entries_length (List.mem_of_find?_eq_some hb)
  | rollingBack =>
    obtain ⟨-, -, -, hlen, -⟩ := hrolling hs
    exact hlen
  | halted =>
    obtain ⟨-, -, -, hlen, -⟩ := hhalted hs
    exact hlen

/-- A batch COMMITTING or ROLLING_BACK is one of the window of the batch in hand. -/
theorem State.Laws.inHand_of_atWork (h : s.Laws answer access) {i : WIdx} (hi : (s.win i).batchAtWork ≠ none) :
    s.engine.inHand.map (·.window) = some i := by
  obtain ⟨hidle, hcommitting, hrolling, hhalted⟩ := h.work
  have honly : ∀ {who : Option WIdx}, s.atWorkOnly who → who = some i := fun hwho =>
    Classical.byContradiction fun hne => hi (hwho i (Ne.symm hne))
  cases hs : s.engine.state with
  | idle =>
    obtain ⟨-, -, -, -, hnone, -⟩ := hidle hs
    cases honly hnone
  | committing =>
    obtain ⟨-, -, x, hx, ⟨hx_only, -⟩, -⟩ := hcommitting hs
    rw [hx]
    exact honly hx_only
  | rollingBack =>
    obtain ⟨-, -, -, -, c, -, hin, hresumed⟩ := hrolling hs
    cases hx : s.engine.inHand with
    | none => cases honly (hresumed hx).2
    | some x =>
      obtain ⟨-, -, hx_only, -⟩ := hin x hx
      exact honly hx_only
  | halted =>
    obtain ⟨-, -, -, -, hnone, -⟩ := hhalted hs
    cases honly hnone

theorem State.Laws.atWork_unique (h : s.Laws answer access) {i j : WIdx} (hi : (s.win i).batchAtWork ≠ none)
    (hj : (s.win j).batchAtWork ≠ none) : i = j :=
  Option.some.inj ((h.inHand_of_atWork hi).symm.trans (h.inHand_of_atWork hj))

/-- The queue has one entry for a window, and there are sixteen windows (R80). -/
theorem State.queueLaw.length_le (h : s.queueLaw) : s.engine.queue.length ≤ 16 := by
  obtain ⟨hnodup, -⟩ := h
  calc s.engine.queue.length = (s.engine.queue.map (·.1)).length := (List.length_map _).symm
    _ ≤ allWindows.length := hnodup.length_le_of_subset fun i _ => mem_allWindows i

end

/-- Settles O60: each clause by what the engine holds in its state. -/
theorem haltedExactlyWhenFaulted : Obligations.HaltedExactlyWhenFaulted := by
  intro s hlaw
  have h := s.deviceLaw_iff.1 hlaw
  refine ⟨⟨?_, h.faulted_of_halted⟩, ?_, ?_, h.undo_length, h.undo_of_idle, ?_, h.queue.length_le⟩
  · rintro ⟨i, hi⟩
    exact (h.halted_of_faulted hi).1
  · exact fun i j hi hj => h.faulted_unique hi hj
  · exact fun i hi => (h.halted_of_faulted hi).2
  · exact fun i j hi hj => h.atWork_unique hi hj

end Sys2Proof.Machine
end

section
/-! SUPPORT. The Cycle Port Unit (R118 to R127): what the end of its access does, what taking a request does for each decode, and the
read that is held while its window is in hand. -/

namespace Sys2Proof.Machine

/-! ### The end of an access of the cycle port (R121 to R123, R125, R127) -/

/-- An access of the cycle port ends with the port FREE and its outcome handed to the Cycle Port Unit (R136). -/
theorem State.endAccess_of_cp {s : State} (h : s.accessBy .cp) (o : AccessEnd) :
    s.endAccess o = s.portFreed.endCycleAccess o := by
  obtain ⟨p, hport, howner⟩ := Option.map_eq_some_iff.1 h.2
  simp only [State.endAccess, hport, howner]
  rfl

theorem exec_memoryAnswer_done_cp {s : State} (h : s.accessBy .cp) (data : Quad Byte) :
    exec (.memoryAnswer (.done data)) s = .next (s.portFreed.endCycleAccess (.done data)).judgeAttn := by
  rw [exec_memoryAnswer h.1, State.endAccess_of_cp h]
  rfl

section
variable {t : CycleTxn} {a : Word} {size : Size} {s : State}

/-- The data of a read whose window is in hand is dropped and the read is held (R125). -/
theorem State.endCycleAccess_read_inHand {i : WIdx} (hs : s.cyc.state = .atMemory t) (hr : t.req = .read a size)
    (ht : t.decode.heldWindow = some i) (hi : s.inHandWindow = some i) (data : Quad Byte) :
    s.endCycleAccess (.done data) = { s with cyc := { s.cyc with state := .held t } } := by
  have hin : (t.decode.heldWindow.isSome && t.decode.heldWindow == s.inHandWindow) = true := by simp [ht, hi]
  simp only [State.endCycleAccess, hs, hr]
  rw [if_pos hin]

/-- Any other read is answered with memory's bytes (R121). -/
theorem State.endCycleAccess_read (hs : s.cyc.state = .atMemory t) (hr : t.req = .read a size)
    (ht : t.decode.heldWindow = none ∨ t.decode.heldWindow ≠ s.inHandWindow) (data : Quad Byte) :
    s.endCycleAccess (.done data) =
      { s with cyc := ⟨.idle, some (.done (readBytes size data)), s.cyc.waiting⟩ } := by
  have hout : ¬ (t.decode.heldWindow.isSome && t.decode.heldWindow == s.inHandWindow) = true := by
    rcases ht with hnone | hne
    · simp [hnone]
    · simp [hne]
  simp only [State.endCycleAccess, hs, hr]
  rw [if_neg hout]
  rfl

/-- A write is answered DONE, and tapped as its decode says (R121, R122). -/
theorem State.endCycleAccess_write {d : WriteData} (hs : s.cyc.state = .atMemory t) (hr : t.req = .write a d)
    (data : Quad Byte) : s.endCycleAccess (.done data) = { s with
      cyc := ⟨.idle, some (.done []), s.cyc.waiting⟩
      rep := if t.decode.tapsCycle then s.rep.take (.tap .cycle a d) else s.rep } := by
  simp only [State.endCycleAccess, hs, hr]
  cases t.decode.tapsCycle <;> rfl

/-- A failed access is recorded and answered FAULT, in hand or not (R123, R125). -/
theorem State.endCycleAccess_failed (hs : s.cyc.state = .atMemory t) (how : MemFailure) :
    s.endCycleAccess (.failed how) = { s with
      cyc := ⟨.idle, some .fault, s.cyc.waiting⟩
      rep := s.rep.take (.memoryError .cp (wordAddr (reqAddr t.req)) how) } := by
  simp only [State.endCycleAccess, hs]
  rfl

/-- A drained access is not answered (R127). -/
theorem State.endCycleAccess_drained (hs : s.cyc.state = .draining t) (data : Quad Byte) :
    s.endCycleAccess (.done data) = { s with cyc := { s.cyc with state := .idle } } := by
  simp only [State.endCycleAccess, hs]

/-- A drained access that fails is recorded all the same (R127). -/
theorem State.endCycleAccess_drained_failed (hs : s.cyc.state = .draining t) (how : MemFailure) :
    s.endCycleAccess (.failed how) = { s with
      cyc := { s.cyc with state := .idle }
      rep := s.rep.take (.memoryError .cp (wordAddr (reqAddr t.req)) how) } := by
  simp only [State.endCycleAccess, hs]
  rfl

end

/-- Settles O35: each end of an access that the cycle port answers, holds again or drains, on the state with the memory port FREE. -/
theorem cycleAccessEnds : Obligations.CycleAccessEnds := by
  refine ⟨?_, ?_, ?_, ?_, ?_, ?_⟩
  · intro t i a size data s h hs hr ht hi
    rw [exec_memoryAnswer_done_cp h, State.endCycleAccess_read_inHand (s := s.portFreed) hs hr ht hi]
    rfl
  · intro t a size data s h hs hr ht
    rw [exec_memoryAnswer_done_cp h, State.endCycleAccess_read (s := s.portFreed) hs hr ht]
    rfl
  · intro t a d data s h hs hr
    rw [exec_memoryAnswer_done_cp h, State.endCycleAccess_write (s := s.portFreed) hs hr]
    cases t.decode with
    | pass _ _ _ tap => cases tap <;> rfl
    | unmapped => rfl
    | held _ _ _ _ _ => rfl
    | faulted _ => rfl
  · intro t how s h hs
    rw [State.endAccess_of_cp h, State.endCycleAccess_failed (s := s.portFreed) hs]
    rfl
  · intro t data s h hs
    rw [exec_memoryAnswer_done_cp h, State.endCycleAccess_drained (s := s.portFreed) hs]
    rfl
  · intro t how s h hs
    rw [State.endAccess_of_cp h, State.endCycleAccess_drained_failed (s := s.portFreed) hs]
    rfl

/-! ### A request taken by the cycle port (R118 to R121, R124) -/

/-- The state in which the cycle port has taken its one request and answered nothing yet. -/
def State.takingCycle (s : State) : State := { s with cyc := ⟨.idle, none, []⟩ }

theorem State.waiting_of_takesCycles {s : State} (h : s.takesCycles) : s.cyc.waiting = [] := by
  obtain ⟨⟨hresetn, howes⟩, hidle, hcrstn⟩ := h
  obtain ⟨-, -, -, hdue⟩ := State.owes_eq_false.1 howes
  simpa [State.cycleTakeDue, State.cycleReady, hidle, hcrstn, hresetn] using hdue

/-- Dispatch on a PASS window, by whether its cycle access permits the kind (R4, R119). -/
theorem State.dispatchCycle_pass (r : BusRequest) (i : WIdx) (ua ca : Access) (tap : Tap) (s : State) :
    s.dispatchCycle r (.pass i ua ca tap) =
      if ca.permits (reqKind r) then s.placeCycle ⟨r, .pass i ua ca tap⟩ else s.refuseCycle r i .noAccess := by
  cases ca with
  | none => rfl
  | readWrite => rfl
  | readOnly => cases r <;> rfl

/-- A write to a HELD window is refused, whatever its cycle access (R119). -/
theorem State.dispatchCycle_held_write (a : Word) (data : WriteData) (i : WIdx) (ua ca : Access) (tap : Tap) (f : HeldFields)
    (s : State) :
    s.dispatchCycle (.write a data) (.held i ua ca tap f) = s.refuseCycle (.write a data) i .heldWrite := by
  cases ca <;> rfl

/-- A read of a HELD window, by whether its cycle access permits it (R119). -/
theorem State.dispatchCycle_held_read (a : Word) (size : Size) (i : WIdx) (ua ca : Access) (tap : Tap) (f : HeldFields)
    (s : State) : s.dispatchCycle (.read a size) (.held i ua ca tap f) =
      if ca = .none then s.refuseCycle (.read a size) i .noAccess
      else s.readHeldWindow (.read a size) (.held i ua ca tap f) i := by
  cases ca <;> rfl

section
variable {r : BusRequest} {s : State}

/-- A free port takes its request with no answer yet and none waiting behind it (R118). -/
theorem State.takeCycle_of_takesCycles (ht : s.takesCycles) : s.takeCycle r =
    if reqAligned r then s.takingCycle.dispatchCycle r (s.decodeAddr (reqAddr r)) else s.takingCycle.misalignedCycle r := by
  have htaken : { s with cyc := { s.cyc with answer := none } } = s.takingCycle := by
    simp only [State.takingCycle, ht.2.1, State.waiting_of_takesCycles ht]
  simp only [State.takeCycle, htaken]
  rfl

/-- An aligned request is dispatched on its decode (R118, R119). -/
theorem exec_cycle_aligned {d : Decode} (ht : s.takesCycles) (ha : (reqAddr r).toNat % sizeBytes (reqSize r) = 0)
    (hd : s.decodeAddr (reqAddr r) = d) :
    exec (.cycleTransactionTaken r) s = .next (s.takingCycle.dispatchCycle r d).judgeAttn := by
  have hal : reqAligned r = true := beq_iff_eq.2 ha
  rw [exec_cycleTransactionTaken ht, State.takeCycle_of_takesCycles ht, if_pos hal, hd]

theorem exec_cycle_misaligned (ht : s.takesCycles) (ha : (reqAddr r).toNat % sizeBytes (reqSize r) ≠ 0) :
    exec (.cycleTransactionTaken r) s = .next (s.takingCycle.misalignedCycle r).judgeAttn := by
  have hal : ¬ reqAligned r = true := fun hal => ha (beq_iff_eq.1 hal)
  rw [exec_cycleTransactionTaken ht, State.takeCycle_of_takesCycles ht, if_neg hal]

/-- A transaction that is refused by its decode, for any reason of R119. -/
theorem State.dispatchCycle_refused {i : WIdx} {reason : DenyReason} {ua ca : Access} {tap : Tap} {f : HeldFields} {d : Decode}
    (h : (d = .pass i ua ca tap ∧ ca.permits (reqKind r) = false ∧ reason = .noAccess) ∨
      (d = .held i ua ca tap f ∧ reqKind r = .write ∧ reason = .heldWrite) ∨
      (d = .held i ua ca tap f ∧ reqKind r = .read ∧ ca = .none ∧ reason = .noAccess) ∨
      (d = .faulted i ∧ reason = .faulted)) :
    s.dispatchCycle r d = s.refuseCycle r i reason := by
  rcases h with ⟨rfl, hp, rfl⟩ | ⟨rfl, hk, rfl⟩ | ⟨rfl, hk, rfl, rfl⟩ | ⟨rfl, rfl⟩
  · rw [State.dispatchCycle_pass, hp, if_neg Bool.false_ne_true]
  · cases r with
    | read => cases hk
    | write a data => exact State.dispatchCycle_held_write a data i ua ca tap f s
  · cases r with
    | read => rfl
    | write => cases hk
  · rfl

/-- A transaction that reaches memory, for any reason of R119. -/
theorem State.dispatchCycle_placed {i : WIdx} {ua ca : Access} {tap : Tap} {f : HeldFields} {d : Decode}
    (h : d = .unmapped ∨ (d = .pass i ua ca tap ∧ ca.permits (reqKind r) = true) ∨
      (d = .held i ua ca tap f ∧ reqKind r = .read ∧ ca ≠ .none ∧ s.inHandWindow ≠ some i)) :
    s.dispatchCycle r d = s.placeCycle ⟨r, d⟩ := by
  rcases h with rfl | ⟨rfl, hp⟩ | ⟨rfl, hk, hca, hi⟩
  · rfl
  · rw [State.dispatchCycle_pass, if_pos hp]
  · cases r with
    | read => rw [State.dispatchCycle_held_read, if_neg hca, State.readHeldWindow, if_neg hi]
    | write => cases hk

end

/-- Settles O20: alignment is looked at before the decode, and every decode that refuses leads to the same record, count and
answer. -/
theorem misalignedAndRefusedCycleTransactions : Obligations.MisalignedAndRefusedCycleTransactions := by
  refine ⟨?_, ?_⟩
  · intro r s ht ha
    rw [exec_cycle_misaligned ht ha]
    rfl
  · intro r i reason ua ca tap f s ht ha hrefused
    rw [exec_cycle_aligned ht ha rfl, State.dispatchCycle_refused hrefused]
    rfl

/-! ### The read of a window in hand (R124 to R126) -/

section
variable {i : WIdx} {t : CycleTxn} {s : State}

theorem State.holdCycleRead_requested (hs : s.cyc.state = .requested t) (ht : t.decode.heldWindow = some i) :
    s.holdCycleRead i = { s with cyc := { s.cyc with state := .held t }, arb := { s.arb with cp := none } } := by
  simp only [State.holdCycleRead, hs, if_pos ht]

theorem State.releaseCycleRead_held (hs : s.cyc.state = .held t) (ht : t.decode.heldWindow = some i) :
    s.releaseCycleRead i = s.placeCycle t := by
  simp only [State.releaseCycleRead, hs, if_pos ht]

theorem State.faultCycleRead_held (hs : s.cyc.state = .held t) (ht : t.decode.heldWindow = some i) :
    s.faultCycleRead i = s.answerCycle .fault := by
  simp only [State.faultCycleRead, hs, if_pos ht]

/-- Without a REQUESTED read of the window nothing is withdrawn. -/
theorem State.holdCycleRead_of_noRead (h : ∀ t, s.cyc.state = .requested t → t.decode.heldWindow ≠ some i) :
    s.holdCycleRead i = s := by
  unfold State.holdCycleRead
  split
  · next t hs => exact if_neg (h t hs)
  · rfl

/-- Without a held read of the window there is none to release. -/
theorem State.releaseCycleRead_of_noRead (h : ∀ t, s.cyc.state = .held t → t.decode.heldWindow ≠ some i) :
    s.releaseCycleRead i = s := by
  unfold State.releaseCycleRead
  split
  · next t hs => exact if_neg (h t hs)
  · rfl

/-- Without a held read of the window there is none to answer. -/
theorem State.faultCycleRead_of_noRead (h : ∀ t, s.cyc.state = .held t → t.decode.heldWindow ≠ some i) :
    s.faultCycleRead i = s := by
  unfold State.faultCycleRead
  split
  · next t hs => exact if_neg (h t hs)
  · rfl

end

/-- Settles O21: a permitted access is placed, a read of the window in hand is held, and the held read follows the engine's work. -/
theorem placedOrHeldCycleAccess : Obligations.PlacedOrHeldCycleAccess := by
  refine ⟨?_, ?_, ?_, ?_, ?_, ?_⟩
  · intro r i ua ca tap f d s ht ha hd hplaced
    rw [exec_cycle_aligned ht ha hd, State.dispatchCycle_placed (s := s.takingCycle) hplaced]
    rfl
  · intro a size i ua ca tap f s ht ha hd hca hi
    have hin : s.takingCycle.inHandWindow = some i := hi
    rw [exec_cycle_aligned (r := .read a size) ht ha hd, State.dispatchCycle_held_read, if_neg hca, State.readHeldWindow,
      if_pos hin]
    rfl
  · exact fun i t s hs ht => State.holdCycleRead_requested hs ht
  · exact fun i s h => State.holdCycleRead_of_noRead h
  · exact fun i t s hs ht => ⟨State.releaseCycleRead_held hs ht, State.faultCycleRead_held hs ht⟩
  · exact fun i s h => ⟨State.releaseCycleRead_of_noRead h, State.faultCycleRead_of_noRead h⟩

end Sys2Proof.Machine
end

section
/-! SUPPORT. The Memory Port Arbiter (R132 to R134, R136): what a grant chooses, what it leaves on the port, and how an access ends. -/

namespace Sys2Proof.Machine

/-! ### The choice (R133) -/

section
variable {a : Arbiter} {who : Requester} {r q : BusRequest}

theorem Arbiter.highestOther_of_ce (hce : a.ce = some r) : a.highestOther = some (.ce, r) := by
  simp only [Arbiter.highestOther, hce]

theorem Arbiter.highestOther_of_up (hce : a.ce = none) (hup : a.up = some r) : a.highestOther = some (.up, r) := by
  simp only [Arbiter.highestOther, hce, hup]

theorem Arbiter.highestOther_of_sl (hce : a.ce = none) (hup : a.up = none) (hsl : a.sl = some r) :
    a.highestOther = some (.sl, r) := by
  simp only [Arbiter.highestOther, hce, hup, hsl]

theorem Arbiter.highestOther_eq_none : a.highestOther = none ↔ a.ce = none ∧ a.up = none ∧ a.sl = none := by
  unfold Arbiter.highestOther
  cases a.ce with
  | some => simp
  | none =>
    cases a.up with
    | some => simp
    | none => cases a.sl <;> simp

theorem Arbiter.choose_cp_alone (hcp : a.cp = some r) (ho : a.highestOther = none) : a.choose = some (.cp, r, 0) := by
  simp only [Arbiter.choose, hcp, ho]

theorem Arbiter.choose_none (hcp : a.cp = none) (ho : a.highestOther = none) : a.choose = none := by
  simp only [Arbiter.choose, hcp, ho]

/-- Below the limit of the streak CP is chosen over any other. -/
theorem Arbiter.choose_cp_first (hcp : a.cp = some r) (ho : a.highestOther ≠ none) (hk : a.streak < Config.streakLimit) :
    a.choose = some (.cp, r, a.streak + 1) := by
  obtain ⟨other, ho⟩ := Option.ne_none_iff_exists'.1 ho
  simp only [Arbiter.choose, hcp, ho, if_pos hk]

/-- Without CP, or at the limit of the streak, the highest other is chosen. -/
theorem Arbiter.choose_other (hcp : a.cp = none ∨ a.streak = Config.streakLimit) (ho : a.highestOther = some (who, q)) :
    a.choose = some (who, q, 0) := by
  cases hreq : a.cp with
  | none => simp only [Arbiter.choose, hreq, ho]
  | some r =>
    have hk : ¬ a.streak < Config.streakLimit := by
      rcases hcp with hnone | hk
      · rw [hreq] at hnone; cases hnone
      · exact hk ▸ Nat.lt_irrefl _
    simp only [Arbiter.choose, hreq, ho, if_neg hk]

end

/-- Settles O32: the rows of R133, by whether CP waits, which of the others is the highest, and where the streak stands. -/
theorem arbiterChoice : Obligations.ArbiterChoice := by
  refine ⟨?_, ?_, ?_, ?_, ?_, ?_, ?_⟩
  · exact fun a r hcp hce hup hsl => Arbiter.choose_cp_alone hcp (Arbiter.highestOther_eq_none.2 ⟨hce, hup, hsl⟩)
  · intro a r hcp hother hk
    refine Arbiter.choose_cp_first hcp (fun hnone => ?_) (Nat.lt_succ_of_le hk)
    obtain ⟨hce, hup, hsl⟩ := Arbiter.highestOther_eq_none.1 hnone
    rcases hother with h | h | h
    · exact h hce
    · exact h hup
    · exact h hsl
  · exact fun a r hcp hce => Arbiter.choose_other hcp (Arbiter.highestOther_of_ce hce)
  · exact fun a r hcp hce hup => Arbiter.choose_other hcp (Arbiter.highestOther_of_up hce hup)
  · exact fun a r hcp hce hup hsl => Arbiter.choose_other hcp (Arbiter.highestOther_of_sl hce hup hsl)
  · exact fun a hcp hce hup hsl => Arbiter.choose_none hcp (Arbiter.highestOther_eq_none.2 ⟨hce, hup, hsl⟩)
  · exact fun a who r k _ hchoose => Arbiter.choose_streak hchoose

/-! ### The grant (R132, R134) -/

section
variable {s : State} {who : Requester} {r : BusRequest} {k : Nat}

theorem exec_grant (h : s.settled) : exec .grant s = .next s.grantNext.judgeAttn :=
  event_of_settled _ _ h

/-- A grant on a FREE port puts the chosen request on it, and the requester sees the grant (R132). -/
theorem State.grantNext_granted (hport : s.arb.port = none) (hchoose : s.arb.choose = some (who, r, k)) :
    s.grantNext = State.seeGrant who { s with arb := s.arb.granted who r k } := by
  simp only [State.grantNext, hport, hchoose]
  rfl

/-- With the port BUSY or nothing waiting there is nothing to grant (log 4). -/
theorem State.grantNext_of_nothing (h : s.arb.port ≠ none ∨ s.arb.choose = none) : s.grantNext = s := by
  unfold State.grantNext
  split
  · next hport hchoose =>
    rcases h with hbusy | hnone
    · exact absurd hport hbusy
    · rw [hnone] at hchoose; cases hchoose
  · rfl

theorem State.seeGrant_cp {t : CycleTxn} (hs : s.cyc.state = .requested t) :
    s.seeGrant .cp = { s with cyc := { s.cyc with state := .atMemory t } } := by
  simp only [State.seeGrant, hs]

theorem State.seeGrant_up {t : UpdateTxn} (hs : s.upd.state = .requested t) :
    s.seeGrant .up = { s with upd := { s.upd with state := .atMemory t } } := by
  simp only [State.seeGrant, hs]

theorem exec_grant_granted (h : s.settled) (hport : s.arb.port = none) (hchoose : s.arb.choose = some (who, r, k)) :
    exec .grant s = .next (State.seeGrant who { s with arb := s.arb.granted who r k }).judgeAttn := by
  rw [exec_grant h, State.grantNext_granted hport hchoose]

end

/-! ### The end of an access (R134, R136) -/

section
variable {s : State}

theorem exec_accessTimeout (h : s.settled) : exec .accessTimeout s = .next s.timeOut.judgeAttn :=
  event_of_settled _ _ h

/-- A FREE port has no access to end (log 4). -/
theorem State.endAccess_free (hport : s.arb.port = none) (o : AccessEnd) : s.endAccess o = s := by
  simp only [State.endAccess, hport]

/-- A FREE port has no access timer to run out (log 4). -/
theorem State.timeOut_free (hport : s.arb.port = none) : s.timeOut = s := by
  simp only [State.timeOut, hport]

/-- The time that the access still lacks passes before it ends (R134; log 3). -/
theorem State.timeOut_busy {p : PortAccess} (hport : s.arb.port = some p) :
    s.timeOut = (s.elapse (p.timeout.toNat - p.elapsed)).endAccess (.failed .timeout) := by
  simp only [State.timeOut, hport]

end

/-- Settles O33: the grant requester by requester, and the end of an access by answer and by timeout, with the port BUSY and FREE. -/
theorem grantAndAccessEnd : Obligations.GrantAndAccessEnd := by
  refine ⟨?_, ?_, ?_, ?_, ?_, ?_, ?_, ?_, ?_⟩
  · intro r k t s h hport hchoose hs
    rw [exec_grant_granted h hport hchoose, State.seeGrant_cp (s := { s with arb := s.arb.granted .cp r k }) hs]
    rfl
  · intro r k t s h hport hchoose hs
    rw [exec_grant_granted h hport hchoose, State.seeGrant_up (s := { s with arb := s.arb.granted .up r k }) hs]
    rfl
  · exact fun r k s h hport hchoose => exec_grant_granted h hport hchoose
  · exact fun r k s h hport hchoose => exec_grant_granted h hport hchoose
  · intro s h hnothing
    rw [exec_grant h, State.grantNext_of_nothing hnothing]
  · exact fun data s h => ⟨exec_memoryAnswer h (.done data), exec_memoryAnswer h .error⟩
  · intro p s h hport
    rw [exec_accessTimeout h, State.timeOut_busy hport]
  · intro data s h hport
    refine ⟨?_, ?_, ?_⟩
    · rw [exec_memoryAnswer h, State.endAccess_free hport]
    · rw [exec_memoryAnswer h, State.endAccess_free hport]
    · rw [exec_accessTimeout h, State.timeOut_free hport]
  · exact fun data s => ⟨rfl, rfl⟩

end Sys2Proof.Machine
end

section
/-! SUPPORT. MEMORY_PROBE (R138 to R141): its checks, the bytes it takes from staging, the read it places as the SL request, and the
response at the end of that read. -/

namespace Sys2Proof.Machine

/-! ### The checks and the two ways on (R138 to R140) -/

/-- A word is staged in full when each of its lanes has a byte. -/
theorem Quad.all_isSome_iff {v : Quad (Option Byte)} :
    v.toList.all Option.isSome = true ↔ ∃ b0 b1 b2 b3, v = ⟨some b0, some b1, some b2, some b3⟩ := by
  constructor
  · intro hall
    obtain ⟨l0, l1, l2, l3⟩ := v
    simp only [Quad.toList, List.all_cons, List.all_nil, Bool.and_true, Bool.and_eq_true, Option.isSome_iff_exists] at hall
    obtain ⟨⟨b0, rfl⟩, ⟨b1, rfl⟩, ⟨b2, rfl⟩, ⟨b3, rfl⟩⟩ := hall
    exact ⟨b0, b1, b2, b3, rfl⟩
  · rintro ⟨b0, b1, b2, b3, rfl⟩
    rfl

section
variable {view : ProbeView} {a : Word} {s : State}

theorem State.memoryProbe_misaligned (ha : a.toNat % 4 ≠ 0) : s.memoryProbe view a = s.refuse .badArgument :=
  if_neg ha

theorem State.memoryProbe_faulted {i : WIdx} (ha : a.toNat % 4 = 0) (hd : s.decodeAddr a = .faulted i) :
    s.memoryProbe view a = s.refuse .faulted := by
  simp only [State.memoryProbe, if_pos ha, hd]

/-- A probe that passes both checks goes on with the bytes it takes from staging. -/
theorem State.memoryProbe_passed {d : Decode} (ha : a.toNat % 4 = 0) (hd : s.decodeAddr a = d) (hok : ∀ i, d ≠ .faulted i) :
    s.memoryProbe view a = s.probeStaged ⟨a, view, d, s.probeLanes view a d⟩ := by
  rw [State.memoryProbe, if_pos ha, hd]
  cases d with
  | faulted i => exact absurd rfl (hok i)
  | unmapped => rfl
  | pass => rfl
  | held => rfl

theorem State.probeStaged_whole {p : Probe} {b0 b1 b2 b3 : Byte} (hp : p.staged = ⟨some b0, some b1, some b2, some b3⟩) :
    s.probeStaged p = s.reply .ok (probePayload p [b0, b1, b2, b3]) := by
  have hall : p.staged.toList.all Option.isSome = true := Quad.all_isSome_iff.2 ⟨b0, b1, b2, b3, hp⟩
  rw [State.probeStaged, if_pos hall, hp]
  rfl

theorem State.probeStaged_part {p : Probe} (hp : ∀ b0 b1 b2 b3, p.staged ≠ ⟨some b0, some b1, some b2, some b3⟩) :
    s.probeStaged p = s.placeProbe p := by
  refine if_neg fun hall => ?_
  obtain ⟨b0, b1, b2, b3, heq⟩ := Quad.all_isSome_iff.1 hall
  exact hp b0 b1 b2 b3 heq

theorem State.probeLanes_held {d : Decode} {i : WIdx} (hi : d.heldWindow = some i) :
    s.probeLanes .update a d = (s.win i).viewWord a := by
  simp only [State.probeLanes, hi]

/-- View UPDATE of an address that no HELD window covers takes nothing from staging (R140). -/
theorem State.probeLanes_notHeld {d : Decode} (hi : d.heldWindow = none) : s.probeLanes .update a d = noLanes := by
  simp only [State.probeLanes, hi]

end

/-! ### The slot of a probe under way -/

section
variable {tag code : Byte} {q : List Byte} {p : Probe} {s : State}

/-- Placing a probe's read and deciding a link transaction's frame do not meet. -/
theorem State.endFrame_placeProbe (p : Probe) (s : State) : (s.placeProbe p).endFrame = s.endFrame.placeProbe p := by
  cases hlink : s.svc.link with
  | none => simp only [State.endFrame, State.placeProbe, hlink]
  | some t => cases hphase : t.phase <;> simp only [State.endFrame, State.placeProbe, hlink, hphase]

/-- A command that places a probe's read stays in the slot. -/
theorem event_takeRequest_placeProbe {op : State → State} (h : s.takesCommands)
    (hop : op (s.inSlot tag code q) = (s.inSlot tag code q).placeProbe p) :
    event (State.takeRequest tag code q op) s = .next (State.working tag code q (s.placeProbe p)) := by
  rw [event_takeRequest _ _ _ _ _ h]
  change Host.Outcome.next (op (s.inSlot tag code q)).judgeAttn = _
  rw [hop, State.working, State.endFrame_placeProbe]
  rfl

end

/-! ### The end of a probe's access (R141) -/

/-- A probe's access ends with the port FREE and its outcome handed to the Service Link Unit (R136). -/
theorem State.endAccess_of_sl {s : State} (h : s.accessBy .sl) (o : AccessEnd) :
    s.endAccess o = s.portFreed.endProbe o := by
  obtain ⟨access, hport, howner⟩ := Option.map_eq_some_iff.1 h.2
  simp only [State.endAccess, hport, howner]
  rfl

section
variable {p : Probe} {tag code : Byte} {q : List Byte} {s : State}

theorem State.endProbe_done (hp : s.svc.probe = some p) (hslot : s.svc.slot = .working tag code q) (data : Quad Byte) :
    s.endProbe (.done data) = { s with svc := { s.svc with
      probe := none
      slot := .ready tag .ok (probePayload p (mergeBytes p.staged.toList data.toList)) } } := by
  simp only [State.endProbe, hp]
  exact State.reply_working _ _ _ tag code q hslot

theorem State.endProbe_failed (hp : s.svc.probe = some p) (hslot : s.svc.slot = .working tag code q) (how : MemFailure) :
    s.endProbe (.failed how) = { s with
      rep := s.rep.take (.memoryError .sl p.addr how)
      svc := { s.svc with probe := none, slot := .ready tag .memoryError (probeErrorPayload p how) } } := by
  simp only [State.endProbe, hp]
  exact State.reply_working _ _ _ tag code q hslot

end

/-! ### MEMORY_PROBE -/

section
variable {view : ProbeView} {tag : Byte} {q : List Byte} {a : Word} {d : Decode} {s : State}

/-- A probe that passes the checks without its word staged in full places its read (R139, R140). -/
theorem event_memoryProbe_placed {v : Quad (Option Byte)} (h : s.takesCommands) (ha : a.toNat % 4 = 0)
    (hd : s.decodeAddr a = d) (hok : ∀ i, d ≠ .faulted i) (hv : s.probeLanes view a d = v)
    (hpart : ∀ b0 b1 b2 b3, v ≠ ⟨some b0, some b1, some b2, some b3⟩) :
    event (State.takeRequest tag 0x70 q (State.memoryProbe view a)) s =
      .next (State.working tag 0x70 q (s.placeProbe ⟨a, view, d, v⟩)) := by
  refine event_takeRequest_placeProbe h ?_
  rw [State.memoryProbe_passed (s := s.inSlot tag 0x70 q) ha hd hok,
    show (s.inSlot tag 0x70 q).probeLanes view a d = v from hv]
  exact State.probeStaged_part hpart

/-- A probe in view UPDATE of a word that is staged in full is answered at once (R140). -/
theorem event_memoryProbe_whole {i : WIdx} {b0 b1 b2 b3 : Byte} (h : s.takesCommands) (ha : a.toNat % 4 = 0)
    (hd : s.decodeAddr a = d) (hi : d.heldWindow = some i)
    (hv : (s.win i).viewWord a = ⟨some b0, some b1, some b2, some b3⟩) :
    event (State.takeRequest tag 0x70 q (State.memoryProbe .update a)) s =
      .next (State.answered tag .ok (probePayload ⟨a, .update, d, (s.win i).viewWord a⟩ [b0, b1, b2, b3]) s) := by
  have hok : ∀ j, d ≠ .faulted j := by rintro j rfl; cases hi
  refine event_takeRequest_only_answered h ?_
  rw [State.memoryProbe_passed (s := s.inSlot tag 0x70 q) ha hd hok, State.probeLanes_held hi]
  exact State.probeStaged_whole hv

end

theorem laneByte_all : laneByte ⟨true, true, true, true⟩ = 0x0F := rfl

/-- The response of a probe whose four bytes were all staged: the lane set is 0FH. -/
theorem probePayload_whole {a : Word} {d : Decode} {i : WIdx} {b0 b1 b2 b3 : Byte} (hi : d.heldWindow = some i) :
    probePayload ⟨a, .update, d, ⟨some b0, some b1, some b2, some b3⟩⟩ [b0, b1, b2, b3] =
      be32 a ++ [0x02, BitVec.ofNat 8 i.val, 0x01, b0, b1, b2, b3, 0x0F] := by
  cases d with
  | held w ua ca tap f =>
    obtain rfl : w = i := Option.some.inj hi
    have hlanes : laneByte ((⟨some b0, some b1, some b2, some b3⟩ : Quad (Option Byte)).map Option.isSome) = 0x0F :=
      laneByte_all
    rw [probePayload, hlanes]
    rfl
  | unmapped => cases hi
  | pass => cases hi
  | faulted => cases hi

/-- Settles O36: the two checks, the probe placed or answered from staging, both ends of its access, and the layout of the decode. -/
theorem memoryProbe : Obligations.MemoryProbe := by
  refine ⟨?_, ?_, ?_, ?_, ?_, ?_, ?_⟩
  · exact fun tag a s h ha => ⟨event_takeRequest_only_answered h (State.memoryProbe_misaligned ha),
      event_takeRequest_only_answered h (State.memoryProbe_misaligned ha)⟩
  · exact fun tag a i s h ha hd => ⟨event_takeRequest_only_answered h (State.memoryProbe_faulted ha hd),
      event_takeRequest_only_answered h (State.memoryProbe_faulted ha hd)⟩
  · intro tag a d s h ha hd hok
    exact ⟨event_memoryProbe_placed (view := .memory) h ha hd hok rfl nofun,
      fun hi => event_memoryProbe_placed (view := .update) h ha hd hok (State.probeLanes_notHeld hi) nofun⟩
  · intro tag a d i v s h ha hd hi hv
    have hok : ∀ j, d ≠ .faulted j := by rintro j rfl; cases hi
    split
    · refine (event_memoryProbe_whole h ha hd hi hv.symm).trans ?_
      rw [← hv, probePayload_whole hi]
    · next hpart =>
      exact event_memoryProbe_placed h ha hd hok ((State.probeLanes_held hi).trans hv.symm) hpart
  · intro p tag code payload data s h hp hslot
    rw [exec_memoryAnswer h.1, State.endAccess_of_sl h, answerEnd,
      State.endProbe_done (s := s.portFreed) hp hslot, probePayload, List.append_assoc]
    rfl
  · intro p tag code payload how s h hp hslot
    rw [State.endAccess_of_sl h, State.endProbe_failed (s := s.portFreed) hp hslot]
    rfl
  · intro d
    cases d <;> rfl

end Sys2Proof.Machine
end

section
/-! SUPPORT. The Report Unit by itself (R142 to R154): what a record handed over does, one or several of an event (R145 to R147), and the
law of the queue over a record, a take and the passing of time. -/

namespace Sys2Proof.Machine

/-! ### A record handed over (R146, R147) -/

section
variable {r : ReportUnit}

theorem ReportUnit.take_of_room (b : RecordBody) (h : r.queue.length < 64) :
    r.take b = { r with
      queue := r.queue ++ [⟨r.nextSeq, r.time, b⟩], nextSeq := r.nextSeq + 1, idleElapsed := 0, idleRunOut := false } :=
  if_pos h

theorem ReportUnit.take_of_full (b : RecordBody) (h : 64 ≤ r.queue.length) :
    r.take b = { r with lost := satInc r.lost } :=
  if_neg (Nat.not_lt.2 h)

end

theorem satInc_eq (x : Half) : satInc x = if x = 65535 then 65535 else x + 1 := by
  unfold satInc
  split
  · assumption
  · rfl

/-- A saturating counter as a number (R147). -/
theorem satInc_toNat (x : Half) : (satInc x).toNat = min 65535 (x.toNat + 1) := by
  unfold satInc
  split
  · next h => rw [h]; decide
  · next h =>
    have hne : x.toNat ≠ 65535 := fun e => h (BitVec.eq_of_toNat_eq e)
    have hlt := x.isLt
    have hone : (1 : Half).toNat = 1 := rfl
    rw [BitVec.toNat_add, hone]
    omega

/-- Records that find the queue full are all dropped and counted (R147). -/
theorem ReportUnit.foldl_take_of_full (bs : List RecordBody) {r : ReportUnit} (h : 64 ≤ r.queue.length) :
    (bs.foldl ReportUnit.take r).queue = r.queue ∧
      (bs.foldl ReportUnit.take r).lost.toNat = min 65535 (r.lost.toNat + bs.length) := by
  induction bs generalizing r with
  | nil =>
    have hlt := r.lost.isLt
    exact ⟨rfl, by simp only [List.foldl_nil, List.length_nil]; omega⟩
  | cons b bs ih =>
    obtain ⟨hqueue, hlost⟩ := ih (r := { r with lost := satInc r.lost }) h
    rw [List.foldl_cons, ReportUnit.take_of_full b h]
    refine ⟨hqueue, hlost.trans ?_⟩
    rw [satInc_toNat, List.length_cons]
    omega

/-- Of several records those that find room are accepted in their order, and the rest are dropped and counted (R146, R147). -/
theorem ReportUnit.foldl_take (bs : List RecordBody) {r : ReportUnit} (h : r.queue.length ≤ 64) :
    (bs.foldl ReportUnit.take r).queue.map (·.body) = r.queue.map (·.body) ++ bs.take (64 - r.queue.length) ∧
      (bs.foldl ReportUnit.take r).lost.toNat = min 65535 (r.lost.toNat + (bs.length - (64 - r.queue.length))) := by
  induction bs generalizing r with
  | nil =>
    have hlt := r.lost.isLt
    exact ⟨by simp, by simp only [List.foldl_nil, List.length_nil]; omega⟩
  | cons b bs ih =>
    by_cases hroom : r.queue.length < 64
    · have hleft : 64 - r.queue.length = (64 - (r.queue.length + 1)) + 1 := by omega
      have hlen : (r.take b).queue.length = r.queue.length + 1 := by simp [ReportUnit.take_of_room b hroom]
      obtain ⟨hqueue, hlost⟩ := ih (r := r.take b) (by omega)
      rw [hlen, ReportUnit.take_of_room b hroom] at hqueue hlost
      rw [List.foldl_cons, ReportUnit.take_of_room b hroom, hqueue, hlost, hleft]
      simp
    · obtain ⟨hqueue, hlost⟩ := ReportUnit.foldl_take_of_full (b :: bs) (Nat.not_lt.1 hroom)
      have hnone : 64 - r.queue.length = 0 := by omega
      rw [hqueue, hlost, hnone]
      simp

/-- Settles O37: the two branches of a record handed over, and its induction over the records of one event. -/
theorem recordAcceptedOrDropped : Obligations.RecordAcceptedOrDropped :=
  ⟨fun _ b h => ReportUnit.take_of_room b h, fun r b h => satInc_eq r.lost ▸ ReportUnit.take_of_full b h,
    fun _ _ => rfl, fun _ bs h => ReportUnit.foldl_take bs h⟩

/-! ### The queue's law over the Report Unit's own operations (R146, R148, R150, R151) -/

/-- Sequence numbers run on without gaps up to the next one to be given. -/
def numberedTo (next : Half) (q : List Record) : Prop :=
  ∀ (k : Nat) (h : k < q.length), q[k].seq + BitVec.ofNat 16 (q.length - k) = next

theorem ReportUnit.law_iff (r : ReportUnit) :
    r.law ↔ r.queue.length ≤ 64 ∧ (r.lost ≠ 0 → r.queue.length = 64) ∧ numberedTo r.nextSeq r.queue := by
  unfold ReportUnit.law numberedTo
  exact and_congr_right' (and_congr_right' Fin.forall_iff)

/-- A record under the next number leaves the numbers without gaps (R146). -/
theorem numberedTo.append {next : Half} {q : List Record} (h : numberedTo next q) (time : Word) (b : RecordBody) :
    numberedTo (next + 1) (q ++ [⟨next, time, b⟩]) := by
  intro k hk
  simp only [List.length_append, List.length_singleton] at hk ⊢
  by_cases hlt : k < q.length
  · have hcount : q.length + 1 - k = (q.length - k) + 1 := by omega
    rw [List.getElem_append_left hlt, hcount, BitVec.ofNat_add, ← BitVec.add_assoc, h k hlt]
    rfl
  · obtain rfl : k = q.length := by omega
    have hcount : q.length + 1 - q.length = 1 := by omega
    rw [List.getElem_concat_length rfl, hcount]
    rfl

/-- Taking records from the head leaves the numbers of the rest (R148). -/
theorem numberedTo.drop {next : Half} {q : List Record} (h : numberedTo next q) (n : Nat) : numberedTo next (q.drop n) := by
  intro k hk
  rw [List.length_drop] at hk ⊢
  have hcount : q.length - n - k = q.length - (n + k) := by omega
  rw [List.getElem_drop, hcount]
  exact h (n + k) (by omega)

theorem ReportUnit.law.take {r : ReportUnit} (h : r.law) (b : RecordBody) : (r.take b).law := by
  rw [ReportUnit.law_iff] at h ⊢
  obtain ⟨hlen, hlost, hnum⟩ := h
  by_cases hroom : r.queue.length < 64
  · have hnone : r.lost = 0 := Decidable.byContradiction fun hne => Nat.ne_of_lt hroom (hlost hne)
    rw [ReportUnit.take_of_room b hroom]
    have hlen' : (r.queue ++ [(⟨r.nextSeq, r.time, b⟩ : Record)]).length ≤ 64 := by
      rw [List.length_append, List.length_singleton]
      omega
    exact ⟨hlen', fun hne => absurd hnone hne, numberedTo.append hnum r.time b⟩
  · have hfull : r.queue.length = 64 := by omega
    rw [ReportUnit.take_of_full b (Nat.not_lt.1 hroom)]
    exact ⟨hlen, fun _ => hfull, hnum⟩

/-- The Report Unit after a REPORTS_TAKE (R150, R151). -/
def ReportUnit.afterTake (r : ReportUnit) : ReportUnit := r.removeOldest.reportLoss (!(r.queue.take 3).isEmpty)

section
variable {r : ReportUnit}

theorem ReportUnit.afterTake_of_empty (h : r.queue = []) : r.afterTake = r := by
  simp [ReportUnit.afterTake, ReportUnit.removeOldest, ReportUnit.reportLoss, h]

/-- A take that finds records removes the oldest, and then reports the loss. -/
theorem ReportUnit.afterTake_of_nonempty (h : r.queue ≠ []) :
    r.afterTake = ReportUnit.reportLoss true { r with queue := r.queue.drop 3, idleElapsed := 0, idleRunOut := false } := by
  have htaken : (r.queue.take 3).isEmpty = false := by simp [h]
  rw [ReportUnit.afterTake, ReportUnit.removeOldest, htaken, if_neg (by simpa using h)]
  rfl

theorem ReportUnit.afterTake_of_none_lost (h : r.queue ≠ []) (hlost : r.lost = 0) :
    r.afterTake = { r with queue := r.queue.drop 3, idleElapsed := 0, idleRunOut := false } := by
  rw [ReportUnit.afterTake_of_nonempty h]
  exact if_neg (by simp [hlost])

/-- The record of the loss finds room, since at least one record has been removed. -/
theorem ReportUnit.afterTake_of_lost (h : r.queue ≠ []) (hlost : r.lost ≠ 0) (hlen : r.queue.length ≤ 64) :
    r.afterTake = { r with
      queue := r.queue.drop 3 ++ [⟨r.nextSeq, r.time, .reportsLost r.lost⟩]
      nextSeq := r.nextSeq + 1, lost := 0, idleElapsed := 0, idleRunOut := false } := by
  have hpos : 0 < r.queue.length := List.length_pos_iff.2 h
  have hroom : (r.queue.drop 3).length < 64 := by rw [List.length_drop]; omega
  rw [ReportUnit.afterTake_of_nonempty h, ReportUnit.reportLoss, if_pos (by simpa using hlost),
    ReportUnit.take_of_room _ hroom]

end

theorem ReportUnit.law.afterTake {r : ReportUnit} (h : r.law) : r.afterTake.law := by
  obtain ⟨hlen, hlost, hnum⟩ := r.law_iff.1 h
  have hrest : (r.queue.drop 3).length ≤ 64 := by rw [List.length_drop]; omega
  by_cases hq : r.queue = []
  · rwa [ReportUnit.afterTake_of_empty hq]
  · rw [ReportUnit.law_iff]
    by_cases hnone : r.lost = 0
    · rw [ReportUnit.afterTake_of_none_lost hq hnone]
      exact ⟨hrest, fun hne => absurd hnone hne, numberedTo.drop hnum 3⟩
    · have hfull := hlost hnone
      rw [ReportUnit.afterTake_of_lost hq hnone hlen]
      exact ⟨by simp [hfull], fun hne => absurd rfl hne, numberedTo.append (numberedTo.drop hnum 3) r.time _⟩

theorem ReportUnit.law_reset (attn : Bool) : ReportUnit.law { ReportUnit.reset with attn := attn } :=
  ⟨Nat.zero_le _, fun hne => absurd rfl hne, fun k => k.elim0⟩

end Sys2Proof.Machine
end

section
/-! SUPPORT. REPORTS_TAKE with the bytes of the records (R150, R151, R181, R186), and the time base with the idle timer (R149, R153). -/

namespace Sys2Proof.Machine

/-! ### REPORTS_TAKE (R150, R151) -/

section
variable {tag : Byte} {s : State}

/-- REPORTS_TAKE answers with what the Report Unit's take has removed and left. -/
theorem exec_reportsTake (h : s.takesCommands) :
    exec (.reportsTake tag) s = .next (State.answered tag (if (s.rep.queue.take 3).isEmpty then .none else .ok)
      (reportsPayload (s.rep.queue.take 3) s.rep.afterTake.queue.length s.rep.afterTake.time)
      { s with rep := s.rep.afterTake }) :=
  event_takeRequest_answered (op := State.reportsTake) (t := { s with rep := s.rep.afterTake }) h rfl rfl

theorem exec_reportsTake_empty (h : s.takesCommands) (hq : s.rep.queue = []) :
    exec (.reportsTake tag) s = .next (State.answered tag .none ([0x00, 0x00] ++ be32 s.rep.time) s) := by
  rw [exec_reportsTake h, ReportUnit.afterTake_of_empty hq, hq]
  simp only [reportsPayload, List.take_nil, List.flatMap_nil, List.append_nil]
  rfl

theorem exec_reportsTake_some (h : s.takesCommands) (hq : s.rep.queue ≠ []) :
    exec (.reportsTake tag) s = .next (State.answered tag .ok
      (reportsPayload (s.rep.queue.take 3) s.rep.afterTake.queue.length s.rep.afterTake.time)
      { s with rep := s.rep.afterTake }) := by
  have htaken : (s.rep.queue.take 3).isEmpty = false := by simp [hq]
  rw [exec_reportsTake h, htaken]
  rfl

end

/-! ### The bytes of a record (R181, R186) -/

/-- The byte of a number that starts at a bit (R181). -/
theorem extractLsb'_byte {w : Nat} (x : BitVec w) (n : Nat) : x.extractLsb' n 8 = BitVec.ofNat 8 (x.toNat / 2 ^ n) := by
  rw [BitVec.extractLsb', Nat.shiftRight_eq_div_pow]

theorem be16_eq (h : Half) : be16 h = [BitVec.ofNat 8 (h.toNat / 256), BitVec.ofNat 8 h.toNat] := by
  simp only [be16, extractLsb'_byte]
  simp

theorem be32_eq (w : Word) : be32 w =
    [BitVec.ofNat 8 (w.toNat / 16777216), BitVec.ofNat 8 (w.toNat / 65536), BitVec.ofNat 8 (w.toNat / 256),
      BitVec.ofNat 8 w.toNat] := by
  simp only [be32, extractLsb'_byte]
  simp

/-- The kind's own part of a record takes at most 10 bytes (R186). -/
theorem RecordBody.bytes_length_le (b : RecordBody) : b.bytes.length ≤ 10 := by
  cases b with
  | tap p a d => cases d <;> exact of_decide_eq_true rfl
  | batchDone w id n st => cases st <;> exact of_decide_eq_true rfl
  | _ => exact of_decide_eq_true rfl

theorem Record.bytes_length (r : Record) : r.bytes.length = 8 + r.body.bytes.length := by
  simp [Record.bytes, be16, be32]
  omega

/-- Settles O38: a take by what the queue holds and by whether a loss is to be reported, and then the bytes, kind by kind. -/
theorem reportsTake : Obligations.ReportsTake := by
  refine ⟨fun _ _ => exec_reportsTake_empty, ?_, ?_, ?_, ?_, fun h w => ⟨be16_eq h, be32_eq w⟩, by decide⟩
  · intro tag s h hq hlost
    rw [exec_reportsTake_some h hq, ReportUnit.afterTake_of_none_lost hq hlost]
    rfl
  · intro tag s h hq hlost hlen
    rw [exec_reportsTake_some h hq, ReportUnit.afterTake_of_lost hq hlost hlen, reportsPayload, List.length_append]
    rfl
  · rintro ⟨seq, time, b⟩
    cases b with
    | tap p a d => cases d <;> rfl
    | batchDone w id n st => cases st <;> rfl
    | _ => rfl
  · intro r
    have hlen := r.bytes_length
    have hle := r.body.bytes_length_le
    exact ⟨hlen ▸ rfl, by omega⟩

/-! ### The time base (R149, R153) -/

theorem UpdateState.elapse_eq (n : Nat) (u : UpdateState) :
    u.elapse n = match u with
      | .held w f t => .held w f ⟨t.limit, runUp n t.limit.toNat t.elapsed⟩
      | u => u := by
  cases u <;> rfl

theorem Qualifier.elapse_eq (n : Nat) (q : Qualifier) :
    q.elapse n = match q.state with
      | .qualifying time k => ⟨.qualifying time (runUp n time.toNat k), q.time⟩
      | _ => q := by
  obtain ⟨state, time⟩ := q
  cases state <;> rfl

/-- A timer count kept in 16 bits: below its limit it counts what passes (R68). -/
theorem ofNat_runUp (n : Nat) (limit count : Half) :
    BitVec.ofNat 16 (runUp n limit.toNat count.toNat) =
      if count.toNat + n < limit.toNat then count + BitVec.ofNat 16 n else BitVec.ofNat 16 (max count.toNat limit.toNat) := by
  unfold runUp
  split
  · rw [BitVec.ofNat_add, BitVec.ofNat_toNat, BitVec.setWidth_eq]
  · rfl

section
variable {s : State}

theorem exec_idleTimerRunOut (h : s.settled) : exec .idleTimerRunOut s = .next s.idleRunsOut.judgeAttn :=
  event_of_settled State.idleRunsOut s h

theorem State.idleRunsOut_of_run_out (h : s.rep.idleRunOut = true) : s.idleRunsOut = s := if_pos h

theorem State.idleRunsOut_of_running (h : s.rep.idleRunOut = false) :
    s.idleRunsOut = { s.elapse (s.rep.idleTime.toNat * 100 - s.rep.idleElapsed) with
      rep := { (s.elapse (s.rep.idleTime.toNat * 100 - s.rep.idleElapsed)).rep with idleRunOut := true } } :=
  if_neg (by rw [h]; exact Bool.false_ne_true)

end

/-- Settles O39: each block's timers by the rule of a timer and its limit, and the idle timer's own event. -/
theorem timeAndTheIdleTimer : Obligations.TimeAndTheIdleTimer := by
  refine ⟨?_, ?_, ?_⟩
  · intro n s h
    rw [State.elapse, h, if_neg Bool.false_ne_true]
    congr 1
    · rw [UpdateState.elapse_eq]
      rfl
    · rw [EpochUnit.elapse, ofNat_runUp, Qualifier.elapse_eq, Qualifier.elapse_eq]
      rfl
  · rintro s u h hrun rfl
    rw [exec_idleTimerRunOut h, State.idleRunsOut_of_running hrun]
  · intro s h hrun
    rw [exec_idleTimerRunOut h, State.idleRunsOut_of_run_out hrun]

end Sys2Proof.Machine
end

section
/-! SUPPORT. ATTN over one step (R155): every event ends in its being judged anew, and what does not judge it leaves its reasons. -/

namespace Sys2Proof.Machine

theorem State.judgeAttn_attnLaw (s : State) : s.judgeAttn.attnLaw := rfl

/-- While RESETN is asserted ATTN is to be deasserted. -/
theorem State.attnLevel_in_reset {s : State} (h : s.pins.resetn = true) : s.attnLevel = false := by
  rw [State.attnLevel, h]
  rfl

/-- While RESETN is asserted ATTN stands right where it stands, whatever the other lines do. -/
theorem State.attnLaw.of_in_reset {s t : State} (h : s.attnLaw) (hs : s.pins.resetn = true) (ht : t.pins.resetn = true)
    (hattn : t.rep.attn = s.rep.attn) : t.attnLaw := by
  rw [State.attnLaw, hattn, h, State.attnLevel_in_reset hs, State.attnLevel_in_reset ht]

/-- Every event keeps ATTN at its level, whatever its effect. -/
theorem event_attnLaw {f : State → State} {s t : State} (h : s.attnLaw) (ht : event f s = .next t) : t.attnLaw := by
  rw [event_next] at ht
  cases ht
  split
  · exact h
  · exact State.judgeAttn_attnLaw _

/-- A row that follows a level or a request while RESETN is asserted, and is an event otherwise. -/
theorem rowInReset_attnLaw {f g : State → State} (hg : ∀ s, (g s).pins.resetn = s.pins.resetn ∧ (g s).rep = s.rep)
    {s t : State} (h : s.attnLaw) (ht : (if s.pins.resetn then .next (g s) else event f s) = .next t) : t.attnLaw := by
  obtain ⟨hpins, hrep⟩ := hg s
  split at ht
  · next hreset =>
    cases ht
    exact h.of_in_reset hreset (hpins.trans hreset) (by rw [hrep])
  · exact event_attnLaw h ht

/-- A row that leaves the state while RESETN is asserted, and otherwise does its work with ATTN judged after it. -/
theorem workOutsideReset_attnLaw {f : State → State} {s t : State} (h : s.attnLaw)
    (ht : (if s.pins.resetn then Host.Outcome.next (φ := Fault) (ρ := Refusal) s else .next (f s).judgeAttn) = .next t) :
    t.attnLaw := by
  split at ht <;> cases ht
  · exact h
  · exact State.judgeAttn_attnLaw _

/-- Following a line under RESETN leaves RESETN and the Report Unit. -/
theorem State.lineInReset_frame (line : EpochLine) (high : Bool) (s : State) :
    (s.lineInReset line high).pins.resetn = s.pins.resetn ∧ (s.lineInReset line high).rep = s.rep := by
  cases line <;> exact ⟨rfl, rfl⟩

/-- Whatever command it carries out, the device leaves ATTN at its level. -/
theorem exec_attnLaw (c : Instr) {s t : State} (h : s.attnLaw) (ht : exec c s = .next t) : t.attnLaw := by
  cases c with
  | powerOnReset =>
    cases ht
    exact (State.attnLevel_in_reset rfl).symm
  | resetnDeasserted =>
    simp only [exec, execResetnDeasserted] at ht
    split at ht <;> cases ht
    · exact State.judgeAttn_attnLaw _
    · exact h
  | heldWriteReconsidered => exact workOutsideReset_attnLaw (f := State.settleWrite) h ht
  | fullResetComplete => exact workOutsideReset_attnLaw (f := State.settleWork) h ht
  | lateAnswer ans =>
    cases ht
    exact h
  | urstnAsserted =>
    exact rowInReset_attnLaw (g := fun s => { s with pins := { s.pins with urstn := true } }) (fun _ => ⟨rfl, rfl⟩) h ht
  | urstnDeasserted =>
    exact rowInReset_attnLaw (g := fun s => { s with pins := { s.pins with urstn := false } }) (fun _ => ⟨rfl, rfl⟩) h ht
  | crstnAsserted =>
    exact rowInReset_attnLaw (g := fun s => { s with pins := { s.pins with crstn := true } }) (fun _ => ⟨rfl, rfl⟩) h ht
  | crstnDeasserted =>
    exact rowInReset_attnLaw (g := fun s => { s with pins := { s.pins with crstn := false } }) (fun _ => ⟨rfl, rfl⟩) h ht
  | updateTransactionTaken r => exact rowInReset_attnLaw (g := State.presentUpdate r) (fun _ => ⟨rfl, rfl⟩) h ht
  | cycleTransactionTaken r => exact rowInReset_attnLaw (g := State.presentCycle r) (fun _ => ⟨rfl, rfl⟩) h ht
  | qualifyStart line => exact rowInReset_attnLaw (State.lineInReset_frame line true) h ht
  | pulseDropped line => exact rowInReset_attnLaw (State.lineInReset_frame line false) h ht
  | linkTransactionStart =>
    exact rowInReset_attnLaw (g := fun s => { s with pins := { s.pins with ssn := true } }) (fun _ => ⟨rfl, rfl⟩) h ht
  | ssnRises received bits => exact rowInReset_attnLaw (g := State.ssnHigh) (fun _ => ⟨rfl, rfl⟩) h ht
  | _ => exact event_attnLaw h ht

theorem idleStep_attnLaw {s t : State} (h : s.attnLaw) (ht : idleStep s = .next t) : t.attnLaw := by
  unfold idleStep at ht
  split at ht
  · cases ht
    exact State.judgeAttn_attnLaw _
  · split at ht
    · cases ht
      exact State.judgeAttn_attnLaw _
    · split at ht
      · exact exec_attnLaw _ h ht
      · cases ht
        exact State.judgeAttn_attnLaw _

theorem step_attnLaw {s t : State} (h : s.attnLaw) (ht : step s = .next t) : t.attnLaw := by
  unfold step at ht
  split at ht
  · next c rest _ => exact exec_attnLaw c (s := { s with pending := rest }) h ht
  · exact idleStep_attnLaw h ht

/-- The level of ATTN from its four reasons (R155). -/
theorem State.attnLevel_eq (s : State) :
    s.attnLevel = (!s.pins.resetn && (decide (s.rep.watermark.toNat ≤ s.rep.queue.length) ||
      (decide (s.rep.queue ≠ []) && s.rep.idleRunOut) || decide (s.engine.state = .halted) || s.reasonResponse)) := by
  have hidle : s.reasonIdle = (decide (s.rep.queue ≠ []) && s.rep.idleRunOut) := by
    cases hq : s.rep.queue <;> simp [State.reasonIdle, hq]
  have hhalted : s.reasonHalted = decide (s.engine.state = .halted) := rfl
  rw [State.attnLevel, hidle, hhalted, State.reasonDepth]

/-- Settles O55: an event ends in ATTN judged anew, a row that is none leaves ATTN and its reasons, and under RESETN both stand
deasserted. -/
theorem attnLawKept : Obligations.AttnLawKept :=
  ⟨fun _ _ => step_attnLaw, State.attnLevel_eq, rfl⟩

end Sys2Proof.Machine
end

section
/-! SUPPORT. The law of the report queue over one step (R146, R148, R151). An operation hands records to the Report Unit, which keep
the law, or leaves the Report Unit's queue alone; REPORTS_TAKE and the resets are the other ways in which the queue changes. -/

namespace Sys2Proof.Machine

/-- An operation that keeps the law of the report queue from every state. -/
abbrev KeepsReports (f : State → State) : Prop := ∀ ⦃s : State⦄, s.rep.law → (f s).rep.law

theorem KeepsReports.of_rep {f : State → State} (hf : ∀ s, (f s).rep = s.rep) : KeepsReports f := by
  intro s h
  rwa [hf]

theorem KeepsReports.foldl {α : Type} {f : State → α → State} (hf : ∀ a, KeepsReports (f · a)) (l : List α) {s : State}
    (h : s.rep.law) : (l.foldl f s).rep.law := by
  induction l generalizing s with
  | nil => exact h
  | cons a l ih => exact ih (hf a h)

/-! ### Records, answers and batches -/

theorem State.record_keepsReports (b : RecordBody) : KeepsReports (State.record b) := fun _ h => h.take b

theorem State.judgeAttn_keepsReports : KeepsReports State.judgeAttn := fun _ h => h

theorem State.reply_keepsReports (r : Result) (q : List Byte) : KeepsReports (State.reply r q) :=
  .of_rep fun s => by simp only [State.reply_frame]

theorem State.refuse_keepsReports (r : Result) : KeepsReports (State.refuse r) := State.reply_keepsReports r []

theorem State.faultHeldOf_keepsReports (i : WIdx) : KeepsReports (State.faultHeldOf i) :=
  .of_rep fun s => by simp only [State.faultHeldOf_frame]

theorem State.faultHeld_keepsReports : KeepsReports State.faultHeld :=
  .of_rep fun s => by simp only [State.faultHeld_frame]

theorem State.queueImmediate_keepsReports (i : WIdx) : KeepsReports (State.queueImmediate i) :=
  .of_rep fun s => by simp only [State.queueImmediate_frame]

theorem State.closeBatch_keepsReports (i : WIdx) (id : Half) (es : List Entry) (cause : CloseCause) :
    KeepsReports (State.closeBatch i id es cause) :=
  .of_rep fun s => by simp only [State.closeBatch_frame]

theorem State.ensureOpen_keepsReports (i : WIdx) : KeepsReports (State.ensureOpen i) :=
  .of_rep fun s => by simp only [State.ensureOpen_frame]

theorem State.holdCycleRead_keepsReports (i : WIdx) : KeepsReports (State.holdCycleRead i) :=
  .of_rep fun s => by simp only [State.holdCycleRead_frame]

theorem State.releaseCycleRead_keepsReports (i : WIdx) : KeepsReports (State.releaseCycleRead i) :=
  .of_rep fun s => by simp only [State.releaseCycleRead_frame]

theorem State.faultCycleRead_keepsReports (i : WIdx) : KeepsReports (State.faultCycleRead i) :=
  .of_rep fun s => by simp only [State.faultCycleRead_frame]

theorem State.deny_keepsReports (port : Port) (r : BusRequest) (i : WIdx) (reason : DenyReason) :
    KeepsReports (State.deny port r i reason) :=
  fun _ h => h.take _

theorem State.spoil_keepsReports (i : WIdx) (id : Half) (cause : SpoilCause) : KeepsReports (State.spoil i id cause) :=
  fun _ h => h.take _

theorem State.discardOpen_keepsReports (i : WIdx) (cause : DiscardCause) : KeepsReports (State.discardOpen i cause) := by
  intro s h
  unfold State.discardOpen
  split
  · exact h.take _
  · exact h

theorem State.discardClosed_keepsReports (i : WIdx) (cause : DiscardCause) : KeepsReports (State.discardClosed i cause) :=
  fun _ h => KeepsReports.foldl (fun _ => State.record_keepsReports _) _ h

theorem State.discardQueued_keepsReports (i : WIdx) (cause : DiscardCause) :
    KeepsReports (State.discardQueued i cause) := by
  intro s h
  unfold State.discardQueued
  split
  · exact h.take _
  · exact h

theorem State.discardAll_keepsReports (scope : ResetScope) : KeepsReports (State.discardAll scope) := by
  intro s h
  rw [State.discardAll_eq]
  exact h.take _

/-! ### The two ports -/

theorem State.acceptWrite_keepsReports (x : StagedWrite) (es : List Entry) : KeepsReports (State.acceptWrite x es) := by
  intro s h
  have hclosed : ReportUnit.law (State.rep (if x.closing then
      (s.mapWin x.window fun w => { w with openBatch := some (.gathering (s.openId x.window) es) }).closeBatch
        x.window (s.openId x.window) es .closingWrite
    else s.mapWin x.window fun w => { w with openBatch := some (.gathering (s.openId x.window) es) })) := by
    split
    · exact State.closeBatch_keepsReports _ _ _ _ h
    · exact h
  unfold State.acceptWrite
  dsimp only
  split
  · exact hclosed
  · exact hclosed.take _

theorem State.stageWrite_keepsReports (x : StagedWrite) (timer : Option HoldTimer) :
    KeepsReports (State.stageWrite x timer) := by
  intro s h
  have hopen := State.ensureOpen_keepsReports x.window h
  unfold State.stageWrite
  dsimp only
  split
  · exact State.acceptWrite_keepsReports x _ hopen
  · exact hopen
  · exact hopen
  · exact State.spoil_keepsReports _ _ _ hopen
  · exact hopen

theorem State.expireHold_keepsReports (x : StagedWrite) (f : WaitsFor) : KeepsReports (State.expireHold x f) := by
  intro s h
  have hopen := State.ensureOpen_keepsReports x.window h
  unfold State.expireHold
  dsimp only
  split
  · exact State.spoil_keepsReports _ _ _ hopen
  · exact hopen

theorem State.reconsider_keepsReports : KeepsReports State.reconsider := by
  intro s h
  unfold State.reconsider
  split
  · exact State.stageWrite_keepsReports _ _ h
  · exact h

theorem State.settleWrite_keepsReports : KeepsReports State.settleWrite := by
  intro s h
  unfold State.settleWrite
  split
  · exact State.reconsider_keepsReports h
  · exact h

theorem State.refuseUpdate_keepsReports (r : BusRequest) (i : WIdx) (reason : DenyReason) :
    KeepsReports (State.refuseUpdate r i reason) :=
  fun _ h => State.deny_keepsReports .update r i reason h

theorem State.forwardRead_keepsReports (r : BusRequest) (d : Decode) (i : WIdx) : KeepsReports (State.forwardRead r d i) := by
  intro s h
  unfold State.forwardRead
  dsimp only
  split <;> exact h

theorem State.dispatchUpdate_keepsReports (r : BusRequest) (d : Decode) : KeepsReports (State.dispatchUpdate r d) := by
  intro s h
  unfold State.dispatchUpdate
  split
  · exact h
  · exact State.refuseUpdate_keepsReports r _ _ h
  · split
    · exact h
    · exact h
    · exact State.refuseUpdate_keepsReports _ _ _ h
    · exact State.refuseUpdate_keepsReports _ _ _ h
  · split
    · exact State.forwardRead_keepsReports _ _ _ h
    · exact State.forwardRead_keepsReports _ _ _ h
    · exact State.stageWrite_keepsReports _ _ h
    · exact State.refuseUpdate_keepsReports _ _ _ h
    · exact State.refuseUpdate_keepsReports _ _ _ h

theorem State.takeUpdate_keepsReports (r : BusRequest) : KeepsReports (State.takeUpdate r) := by
  intro s h
  unfold State.takeUpdate
  dsimp only
  split
  · exact State.dispatchUpdate_keepsReports r _ h
  · exact State.record_keepsReports _ h

theorem State.takeUpdates_keepsReports (l : List BusRequest) : KeepsReports (State.takeUpdates l) := by
  intro s h
  induction l generalizing s with
  | nil => exact h
  | cons r l ih =>
    unfold State.takeUpdates
    split
    · exact ih (State.takeUpdate_keepsReports r h)
    · exact h

theorem State.requestUpdate_keepsReports (r : BusRequest) : KeepsReports (State.requestUpdate r) := by
  intro s h
  unfold State.requestUpdate
  split
  · exact State.takeUpdate_keepsReports r h
  · exact h

theorem State.refuseCycle_keepsReports (r : BusRequest) (i : WIdx) (reason : DenyReason) :
    KeepsReports (State.refuseCycle r i reason) :=
  fun _ h => State.deny_keepsReports .cycle r i reason h

theorem State.readHeldWindow_keepsReports (r : BusRequest) (d : Decode) (i : WIdx) :
    KeepsReports (State.readHeldWindow r d i) := by
  intro s h
  unfold State.readHeldWindow
  split <;> exact h

theorem State.dispatchCycle_keepsReports (r : BusRequest) (d : Decode) : KeepsReports (State.dispatchCycle r d) := by
  intro s h
  unfold State.dispatchCycle
  split
  · exact h
  · exact State.refuseCycle_keepsReports r _ _ h
  · split
    · exact h
    · exact h
    · exact State.refuseCycle_keepsReports _ _ _ h
    · exact State.refuseCycle_keepsReports _ _ _ h
  · split
    · exact State.refuseCycle_keepsReports _ _ _ h
    · exact State.refuseCycle_keepsReports _ _ _ h
    · exact State.readHeldWindow_keepsReports _ _ _ h
    · exact State.readHeldWindow_keepsReports _ _ _ h

theorem State.takeCycle_keepsReports (r : BusRequest) : KeepsReports (State.takeCycle r) := by
  intro s h
  unfold State.takeCycle
  dsimp only
  split
  · exact State.dispatchCycle_keepsReports r _ h
  · exact State.record_keepsReports _ h

theorem State.takeCycles_keepsReports (l : List BusRequest) : KeepsReports (State.takeCycles l) := by
  intro s h
  induction l generalizing s with
  | nil => exact h
  | cons r l ih =>
    unfold State.takeCycles
    split
    · exact ih (State.takeCycle_keepsReports r h)
    · exact h

theorem State.requestCycle_keepsReports (r : BusRequest) : KeepsReports (State.requestCycle r) := by
  intro s h
  unfold State.requestCycle
  split
  · exact State.takeCycle_keepsReports r h
  · exact h

/-! ### The Commit Engine and the end of an access -/

theorem State.startCommit_keepsReports : KeepsReports State.startCommit := by
  intro s h
  unfold State.startCommit
  (repeat' split)
  · exact State.holdCycleRead_keepsReports _ h
  · exact h
  · exact h
  · exact h
  · exact h

theorem State.completeCommit_keepsReports (x : BatchInHand) (b : WaitBatch) : KeepsReports (State.completeCommit x b) := by
  intro s h
  unfold State.completeCommit
  refine State.queueImmediate_keepsReports _ (State.releaseCycleRead_keepsReports _ ?_)
  dsimp only
  split
  · exact h.take _
  · exact h

theorem State.writeNewDone_keepsReports (x : BatchInHand) (b : WaitBatch) (c : Cursor) :
    KeepsReports (State.writeNewDone x b c) := by
  intro s h
  unfold State.writeNewDone
  dsimp only
  split
  · exact h
  · exact State.completeCommit_keepsReports _ b h

theorem State.completeRollback_keepsReports : KeepsReports State.completeRollback := by
  intro s h
  unfold State.completeRollback
  split
  · exact h
  · split
    · exact State.queueImmediate_keepsReports _ (State.releaseCycleRead_keepsReports _ (h.take _))
    · exact State.reply_keepsReports _ _ (State.releaseCycleRead_keepsReports _ (h.take _))

theorem State.continueRollback_keepsReports : KeepsReports State.continueRollback := by
  intro s h
  unfold State.continueRollback
  split
  · exact h
  · exact State.completeRollback_keepsReports h

theorem State.failCommit_keepsReports (x : BatchInHand) (e : Entry) (c : Cursor) : KeepsReports (State.failCommit x e c) :=
  fun _ h => State.continueRollback_keepsReports h

theorem State.rollbackWriteDone_keepsReports : KeepsReports State.rollbackWriteDone :=
  fun _ h => State.continueRollback_keepsReports h

theorem State.failRollback_keepsReports : KeepsReports State.failRollback := by
  intro s h
  unfold State.failRollback
  split
  · exact h
  · next c _ =>
    split
    · exact State.faultCycleRead_keepsReports _ ((h.take _).take _)
    · have hdiscarded := State.discardQueued_keepsReports c.window .cleared h
      exact State.reply_keepsReports _ _ (State.faultCycleRead_keepsReports _ (hdiscarded.take _))

theorem State.endCommitAccess_keepsReports (o : AccessEnd) : KeepsReports (State.endCommitAccess o) := by
  intro s h
  unfold State.endCommitAccess
  split
  · (repeat' split)
    · exact h
    · exact State.writeNewDone_keepsReports _ _ _ h
    · exact State.failCommit_keepsReports _ _ _ h
    · exact h
    · exact h
    · exact h
  · split
    · exact State.rollbackWriteDone_keepsReports h
    · exact State.failRollback_keepsReports h
  · exact h
  · exact h

theorem State.endUpdateAccess_keepsReports (o : AccessEnd) : KeepsReports (State.endUpdateAccess o) := by
  intro s h
  unfold State.endUpdateAccess
  split
  · split
    · exact h.take _
    · split
      · exact h
      · dsimp only
        split
        · exact h.take _
        · exact h
  · cases o with
    | failed how => exact h.take _
    | done data => exact h
  · exact h
  · exact h
  · exact h

theorem State.endCycleAccess_keepsReports (o : AccessEnd) : KeepsReports (State.endCycleAccess o) := by
  intro s h
  unfold State.endCycleAccess
  split
  · split
    · exact h.take _
    · split
      · split <;> exact h
      · dsimp only
        split
        · exact h.take _
        · exact h
  · cases o with
    | failed how => exact h.take _
    | done data => exact h
  · exact h
  · exact h
  · exact h

theorem State.endProbe_keepsReports (o : AccessEnd) : KeepsReports (State.endProbe o) := by
  intro s h
  unfold State.endProbe
  split
  · cases o with
    | done data => exact State.reply_keepsReports _ _ h
    | failed how => exact State.reply_keepsReports _ _ (h.take _)
  · exact h

theorem State.endAccess_keepsReports (o : AccessEnd) : KeepsReports (State.endAccess o) := by
  intro s h
  unfold State.endAccess
  split
  · exact h
  · dsimp only
    split
    · exact State.endCycleAccess_keepsReports o h
    · exact State.endCommitAccess_keepsReports o h
    · exact State.endUpdateAccess_keepsReports o h
    · exact State.endProbe_keepsReports o h

theorem State.seeGrant_keepsReports (who : Requester) : KeepsReports (State.seeGrant who) := by
  intro s h
  unfold State.seeGrant
  (repeat' split) <;> exact h

theorem State.grantNext_keepsReports : KeepsReports State.grantNext := by
  intro s h
  unfold State.grantNext
  split
  · exact State.seeGrant_keepsReports _ h
  · exact h

/-! ### Epochs and time -/

theorem State.epochClose_keepsReports (st : Stamp) (i : WIdx) : KeepsReports (State.epochClose st i) := by
  intro s h
  unfold State.epochClose
  split
  · exact h
  · exact h
  · split
    · exact h
    · exact h.take _
  · exact h

theorem State.queueFrom_rep {stamp : Option Stamp} {i : WIdx} {s t : State} (h : s.queueFrom stamp i = some t) :
    t.rep = s.rep := by
  unfold State.queueFrom at h
  split at h
  · cases h; rfl
  · cases h

theorem State.epochQueue_keepsReports (st : Stamp) (i : WIdx) : KeepsReports (State.epochQueue st i) := by
  intro s h
  unfold State.epochQueue
  split
  · next hq => rwa [State.queueFrom_rep hq]
  · split
    · exact h.take _
    · exact h

theorem State.deliverTo_keepsReports (st : Stamp) (i : WIdx) : KeepsReports (State.deliverTo st · i) := by
  intro s h
  dsimp only
  unfold State.deliverTo
  split
  · split
    · refine State.epochQueue_keepsReports st i ?_
      split
      · exact State.epochClose_keepsReports st i h
      · exact h
    · exact h
  · exact h

theorem State.deliver_keepsReports (st : Stamp) : KeepsReports (State.deliver st) := by
  intro s h
  unfold State.deliver
  exact KeepsReports.foldl (State.deliverTo_keepsReports st) allWindows h

theorem State.giveEpoch_keepsReports (src : EpochSource) : KeepsReports (State.giveEpoch src) := by
  intro s h
  unfold State.giveEpoch
  dsimp only
  exact State.deliver_keepsReports _ (s := { s with epoch := s.epoch.bump src }) h

theorem State.timerEpoch_keepsReports : KeepsReports State.timerEpoch := by
  intro s h
  unfold State.timerEpoch
  exact State.giveEpoch_keepsReports .timer (s := { s with epoch := s.epoch.restart }) h

theorem State.flywheelEpoch_keepsReports : KeepsReports State.flywheelEpoch := by
  intro s h
  have htimer := State.timerEpoch_keepsReports h
  unfold State.flywheelEpoch
  generalize s.timerEpoch = t at htimer
  exact htimer.take _

theorem State.acceptPulse_keepsReports (line : EpochLine) : KeepsReports (State.acceptPulse line) := by
  intro s h
  cases line with
  | b =>
    simp only [State.acceptPulse]
    exact State.giveEpoch_keepsReports .lineB h
  | a =>
    have hline := State.giveEpoch_keepsReports .lineA h
    by_cases hmode : s.epoch.mode = .syncA
    · rw [State.acceptPulse_of_syncA hmode]
      exact State.timerEpoch_keepsReports hline
    · rwa [State.acceptPulse_of_not_syncA hmode]

theorem State.elapse_keepsReports (n : Nat) : KeepsReports (State.elapse n) := by
  intro s h
  unfold State.elapse
  split <;> exact h

theorem State.periodEnds_keepsReports : KeepsReports State.periodEnds := by
  intro s h
  unfold State.periodEnds
  split
  · exact h
  · exact State.timerEpoch_keepsReports (State.elapse_keepsReports _ h)
  · exact State.flywheelEpoch_keepsReports (State.elapse_keepsReports _ h)

theorem State.idleRunsOut_keepsReports : KeepsReports State.idleRunsOut := by
  intro s h
  unfold State.idleRunsOut
  split
  · exact h
  · exact State.elapse_keepsReports _ h

theorem State.holdRunsOut_keepsReports : KeepsReports State.holdRunsOut := by
  intro s h
  unfold State.holdRunsOut
  split
  · exact State.expireHold_keepsReports _ _ (State.elapse_keepsReports _ h)
  · exact h

theorem State.timeOut_keepsReports : KeepsReports State.timeOut := by
  intro s h
  unfold State.timeOut
  split
  · exact State.endAccess_keepsReports _ (State.elapse_keepsReports _ h)
  · exact h

/-! ### The epoch lines -/

theorem State.setQualifier_keepsReports (line : EpochLine) (q : QualifierState) :
    KeepsReports (State.setQualifier line q) := by
  intro s h
  cases line <;> exact h

theorem State.setLevel_keepsReports (line : EpochLine) (high : Bool) : KeepsReports (State.setLevel line high) := by
  intro s h
  cases line <;> exact h

theorem State.lineInReset_keepsReports (line : EpochLine) (high : Bool) : KeepsReports (State.lineInReset line high) :=
  fun _ h => State.setQualifier_keepsReports line _ (State.setLevel_keepsReports line high h)

theorem State.lineRises_keepsReports (line : EpochLine) : KeepsReports (State.lineRises line) := by
  intro s h
  have hrisen := State.setLevel_keepsReports line true h
  unfold State.lineRises
  dsimp only
  split
  · exact h
  · split
    · exact State.acceptPulse_keepsReports line (State.setQualifier_keepsReports line _ hrisen)
    · exact State.setQualifier_keepsReports line _ hrisen

theorem State.acceptDue_keepsReports (line : EpochLine) : KeepsReports (State.acceptDue line) := by
  intro s h
  unfold State.acceptDue
  split
  · exact State.acceptPulse_keepsReports line (State.setQualifier_keepsReports line _ h)
  · exact h

theorem State.lineFalls_keepsReports (line : EpochLine) : KeepsReports (State.lineFalls line) := by
  intro s h
  unfold State.lineFalls
  split
  · exact State.setQualifier_keepsReports line _ (State.setLevel_keepsReports line _ (State.acceptDue_keepsReports line h))
  · exact h

theorem State.lineQualifies_keepsReports (line : EpochLine) : KeepsReports (State.lineQualifies line) := by
  intro s h
  unfold State.lineQualifies
  split
  · exact State.acceptPulse_keepsReports line (State.setQualifier_keepsReports line _ (State.elapse_keepsReports _ h))
  · exact h

/-! ### The resets -/

/-- A completed full reset leaves the queue empty (R178). -/
theorem State.completeReset_keepsReports (waited : Bool) : KeepsReports (State.completeReset waited) :=
  fun _ _ => State.reply_keepsReports _ _ (ReportUnit.law_reset _)

theorem State.updateReset_keepsReports : KeepsReports State.updateReset := by
  intro s h
  unfold State.updateReset
  split
  · exact h
  · rw [State.abandonUpdate_eq]
    exact State.discardAll_keepsReports .updateReset h

theorem State.cycleReset_keepsReports : KeepsReports State.cycleReset := by
  intro s h
  unfold State.cycleReset
  split
  · exact h
  · rwa [State.abandonCycle_eq]

theorem State.partResetBatches_keepsReports : KeepsReports State.partResetBatches :=
  fun _ h => State.reply_keepsReports _ _ (State.discardAll_keepsReports _ (State.faultHeld_keepsReports h))

theorem State.partResetFull_keepsReports : KeepsReports State.partResetFull := by
  intro s h
  unfold State.partResetFull
  dsimp only
  split
  · exact State.completeReset_keepsReports false h
  · exact h

/-! ### The service commands -/

theorem State.windowSet_keepsReports (a : WindowSetArgs) : KeepsReports (State.windowSet a) := by
  intro s h
  unfold State.windowSet
  (repeat' split) <;> exact State.reply_keepsReports _ _ h

theorem State.windowDrop_keepsReports (index : Byte) : KeepsReports (State.windowDrop index) := by
  intro s h
  unfold State.windowDrop
  (repeat' split)
  · exact State.refuse_keepsReports _ h
  · exact State.refuse_keepsReports _ h
  · exact State.refuse_keepsReports _ h
  · exact State.reply_keepsReports _ _ (State.discardClosed_keepsReports _ _
      (State.discardOpen_keepsReports _ _ (State.faultHeldOf_keepsReports _ h)))
  · exact State.refuse_keepsReports _ h

theorem State.windowRead_keepsReports (index : Byte) : KeepsReports (State.windowRead index) := by
  intro s h
  unfold State.windowRead
  (repeat' split) <;> exact State.reply_keepsReports _ _ h

theorem State.clearRetry_keepsReports (index : Byte) : KeepsReports (State.clearRetry index) := by
  intro s h
  unfold State.clearRetry
  (repeat' split)
  · exact State.refuse_keepsReports _ h
  · exact State.refuse_keepsReports _ h
  · exact State.refuse_keepsReports _ h
  · exact State.continueRollback_keepsReports
      (State.queueImmediate_keepsReports _ (State.holdCycleRead_keepsReports _ h))

theorem State.clearAbandon_keepsReports (index : Byte) : KeepsReports (State.clearAbandon index) := by
  intro s h
  unfold State.clearAbandon
  (repeat' split)
  · exact State.refuse_keepsReports _ h
  · exact State.refuse_keepsReports _ h
  · exact State.refuse_keepsReports _ h
  · exact State.reply_keepsReports _ _ (State.discardClosed_keepsReports _ .cleared
      (State.discardOpen_keepsReports _ .cleared (State.faultHeldOf_keepsReports _ h)))

theorem State.undoRead_keepsReports (start : Byte) : KeepsReports (State.undoRead start) := by
  intro s h
  unfold State.undoRead
  (repeat' split) <;> exact State.reply_keepsReports _ _ h

theorem State.onActiveHeld_keepsReports (index : Byte) {act : WIdx → State → State} (hact : ∀ i, KeepsReports (act i)) :
    KeepsReports (State.onActiveHeld index act) := by
  intro s h
  unfold State.onActiveHeld
  (repeat' split)
  · exact State.refuse_keepsReports _ h
  · exact State.refuse_keepsReports _ h
  · exact State.refuse_keepsReports _ h
  · exact State.refuse_keepsReports _ h
  · exact hact _ h
  · exact State.refuse_keepsReports _ h

theorem State.closeOpen_keepsReports (i : WIdx) : KeepsReports (State.closeOpen i) := by
  intro s h
  unfold State.closeOpen
  (repeat' split)
  · exact State.refuse_keepsReports _ h
  · exact State.refuse_keepsReports _ h
  · exact State.reply_keepsReports _ _ h
  · exact State.reply_keepsReports _ _ (State.closeBatch_keepsReports _ _ _ _ h)
  · exact State.refuse_keepsReports _ h

theorem State.discardTargetOpen_keepsReports (i : WIdx) : KeepsReports (State.discardTargetOpen i) := by
  intro s h
  unfold State.discardTargetOpen
  split
  · exact State.refuse_keepsReports _ h
  · exact State.reply_keepsReports _ _ (State.discardOpen_keepsReports _ _ (State.faultHeldOf_keepsReports _ h))

theorem State.discardTargetWaiting_keepsReports (i : WIdx) : KeepsReports (State.discardTargetWaiting i) := by
  intro s h
  unfold State.discardTargetWaiting
  split
  · exact State.refuse_keepsReports _ h
  · exact State.reply_keepsReports _ _ (State.discardClosed_keepsReports _ _ h)

theorem State.discardTargetQueued_keepsReports (i : WIdx) : KeepsReports (State.discardTargetQueued i) := by
  intro s h
  unfold State.discardTargetQueued
  (repeat' split)
  · exact State.refuse_keepsReports _ h
  · exact State.refuse_keepsReports _ h
  · exact State.refuse_keepsReports _ h
  · exact State.refuse_keepsReports _ h
  · exact State.queueImmediate_keepsReports _ (State.reply_keepsReports _ _ (State.discardQueued_keepsReports _ _ h))

theorem State.batchList_keepsReports (index : Byte) : KeepsReports (State.batchList index) := by
  intro s h
  unfold State.batchList
  (repeat' split) <;> exact State.reply_keepsReports _ _ h

theorem State.ident_keepsReports : KeepsReports State.ident := State.reply_keepsReports .ok identPayload

theorem State.replyGate_keepsReports : KeepsReports State.replyGate := fun _ h => State.reply_keepsReports _ _ h

theorem State.setGate_keepsReports (g : Gate) : KeepsReports (State.setGate g) := fun _ h => State.replyGate_keepsReports h

theorem State.timerSet_keepsReports (mode : Option Byte) (period : Option Half) (qa qb : Option Byte) :
    KeepsReports (State.timerSet mode period qa qb) := by
  intro s h
  unfold State.timerSet
  split <;> exact State.reply_keepsReports _ _ h

theorem State.limitsRead_keepsReports : KeepsReports State.limitsRead := fun _ h => State.reply_keepsReports _ _ h

/-- Writing the watermark and the idle time leaves the queue and its numbers (R173). -/
theorem State.limitsSet_keepsReports (hold : Option Half) (timeout watermark idle : Option Byte) :
    KeepsReports (State.limitsSet hold timeout watermark idle) := by
  intro s h
  have hwritten : (s.writeLimits hold timeout watermark idle).rep.law := by cases idle <;> exact h
  unfold State.limitsSet
  split
  · exact State.limitsRead_keepsReports hwritten
  · exact State.refuse_keepsReports _ h

theorem State.countersRead_keepsReports : KeepsReports State.countersRead := fun _ h => State.reply_keepsReports _ _ h

theorem State.reportsTake_keepsReports : KeepsReports State.reportsTake :=
  fun _ h => State.reply_keepsReports _ _ (ReportUnit.law.afterTake h)

theorem State.memoryProbe_keepsReports (view : ProbeView) (addr : Word) : KeepsReports (State.memoryProbe view addr) := by
  intro s h
  have hstaged : ∀ p, (s.probeStaged p).rep.law := by
    intro p
    unfold State.probeStaged
    split
    · exact State.reply_keepsReports _ _ h
    · exact h
  unfold State.memoryProbe
  (repeat' split)
  · exact State.refuse_keepsReports _ h
  · exact hstaged _
  · exact State.refuse_keepsReports _ h

/-! ### The service link -/

theorem onEmpty_keepsReports {op : State → State} (hop : KeepsReports op) (p : List Byte) : KeepsReports (onEmpty op p) := by
  unfold onEmpty
  split
  · exact hop
  · exact State.refuse_keepsReports _

theorem onByte_keepsReports {op : Byte → State → State} (hop : ∀ b, KeepsReports (op b)) (p : List Byte) :
    KeepsReports (onByte op p) := by
  unfold onByte
  split
  · exact hop _
  · exact State.refuse_keepsReports _

theorem onDescriptor_keepsReports (p : List Byte) : KeepsReports (onDescriptor p) := by
  unfold onDescriptor
  split
  · exact State.windowSet_keepsReports _
  · exact State.refuse_keepsReports _

theorem onClear_keepsReports (p : List Byte) : KeepsReports (onClear p) := by
  unfold onClear
  (repeat' split)
  · exact State.clearRetry_keepsReports _
  · exact State.clearAbandon_keepsReports _
  · exact State.refuse_keepsReports _
  · exact State.refuse_keepsReports _

theorem onDiscard_keepsReports (p : List Byte) : KeepsReports (onDiscard p) := by
  unfold onDiscard
  (repeat' split)
  · exact State.onActiveHeld_keepsReports _ State.discardTargetOpen_keepsReports
  · exact State.onActiveHeld_keepsReports _ State.discardTargetWaiting_keepsReports
  · exact State.onActiveHeld_keepsReports _ State.discardTargetQueued_keepsReports
  · exact State.refuse_keepsReports _
  · exact State.refuse_keepsReports _

theorem onGate_keepsReports (p : List Byte) : KeepsReports (onGate p) := by
  unfold onGate
  (repeat' split)
  · exact State.replyGate_keepsReports
  · exact State.setGate_keepsReports _
  · exact State.setGate_keepsReports _
  · exact State.refuse_keepsReports _
  · exact State.refuse_keepsReports _

theorem onTimer_keepsReports (p : List Byte) : KeepsReports (onTimer p) := by
  unfold onTimer
  split
  · exact State.timerSet_keepsReports _ _ _ _
  · exact State.refuse_keepsReports _

theorem onLimits_keepsReports (p : List Byte) : KeepsReports (onLimits p) := by
  unfold onLimits
  (repeat' split)
  · exact State.limitsSet_keepsReports _ _ _ _
  · exact State.refuse_keepsReports _
  · exact State.refuse_keepsReports _

theorem onProbe_keepsReports (p : List Byte) : KeepsReports (onProbe p) := by
  unfold onProbe
  (repeat' split)
  · exact State.memoryProbe_keepsReports _ _
  · exact State.memoryProbe_keepsReports _ _
  · exact State.refuse_keepsReports _
  · exact State.refuse_keepsReports _

theorem onPartReset_keepsReports (p : List Byte) : KeepsReports (onPartReset p) := by
  unfold onPartReset
  (repeat' split)
  · exact State.partResetBatches_keepsReports
  · exact State.partResetFull_keepsReports
  · exact State.refuse_keepsReports _
  · exact State.refuse_keepsReports _

/-- Every row of the command table keeps the law, whatever its payload. -/
theorem commandTable_keepsReports : ∀ row ∈ commandTable, ∀ p, KeepsReports (row.2 p) := by
  simp only [commandTable, List.forall_mem_cons]
  exact ⟨onEmpty_keepsReports State.ident_keepsReports, onDescriptor_keepsReports,
    onByte_keepsReports State.windowDrop_keepsReports, onByte_keepsReports State.windowRead_keepsReports,
    onClear_keepsReports, onByte_keepsReports fun i => State.onActiveHeld_keepsReports i State.closeOpen_keepsReports,
    onDiscard_keepsReports, onByte_keepsReports State.batchList_keepsReports,
    onByte_keepsReports State.undoRead_keepsReports, onGate_keepsReports, onTimer_keepsReports, onLimits_keepsReports,
    onEmpty_keepsReports State.limitsRead_keepsReports, onEmpty_keepsReports State.countersRead_keepsReports,
    onEmpty_keepsReports State.reportsTake_keepsReports, onProbe_keepsReports, onPartReset_keepsReports, nofun⟩

theorem dispatch_keepsReports (code : Byte) (p : List Byte) : KeepsReports (dispatch code p) := by
  unfold dispatch
  split
  · next row hrow => exact commandTable_keepsReports row (List.mem_of_find?_eq_some hrow) p
  · exact State.refuse_keepsReports _

theorem State.endFrame_keepsReports : KeepsReports State.endFrame := .of_rep fun s => by rw [State.endFrame_frame]

theorem State.takeRequest_keepsReports {op : State → State} (hop : KeepsReports op) (tag code : Byte) (p : List Byte) :
    KeepsReports (State.takeRequest tag code p op) := by
  intro s h
  have hframe := State.endFrame_keepsReports h
  unfold State.takeRequest
  dsimp only
  split
  · exact hop hframe
  · exact hframe

theorem State.badFrame_keepsReports (tag : Byte) : KeepsReports (State.badFrame tag) := by
  intro s h
  unfold State.badFrame
  dsimp only
  split <;> exact State.endFrame_keepsReports h

theorem State.decideFrame_keepsReports (f : RequestFrame) : KeepsReports (State.decideFrame f) := by
  intro s h
  unfold State.decideFrame
  split
  · exact State.takeRequest_keepsReports (dispatch_keepsReports _ _) _ _ _ h
  · exact State.badFrame_keepsReports _ h

theorem State.requestFrame_keepsReports (frame : List Byte) : KeepsReports (State.requestFrame frame) := by
  intro s h
  unfold State.requestFrame
  (repeat' split)
  · exact State.decideFrame_keepsReports _ h
  · exact State.endFrame_keepsReports h
  · exact h

theorem State.dropOpenRequest_keepsReports : KeepsReports State.dropOpenRequest := by
  intro s h
  unfold State.dropOpenRequest
  (repeat' split)
  · exact h
  · exact State.endFrame_keepsReports h
  · exact h

theorem State.ssnFalls_keepsReports : KeepsReports State.ssnFalls := by
  intro s h
  unfold State.ssnFalls
  split <;> exact h

theorem State.beginCollect_keepsReports : KeepsReports State.beginCollect := by
  intro s h
  unfold State.beginCollect
  split <;> exact h

theorem State.decideAtRise_keepsReports (received : List Byte) : KeepsReports (State.decideAtRise received) := by
  intro s h
  unfold State.decideAtRise
  (repeat' split)
  · exact State.beginCollect_keepsReports h
  · exact State.decideFrame_keepsReports _ h
  · exact State.badFrame_keepsReports _ h
  · exact State.endFrame_keepsReports h
  · exact h
  · exact h

theorem State.endCollect_keepsReports (received : List Byte) : KeepsReports (State.endCollect received) := by
  intro s h
  unfold State.endCollect
  (repeat' split) <;> exact h

theorem State.ssnRise_keepsReports (received : List Byte) : KeepsReports (State.ssnRise received) := by
  intro s h
  unfold State.ssnRise
  split
  · exact State.endCollect_keepsReports received (State.decideAtRise_keepsReports received h)
  · exact h

/-! ### Every step -/

theorem State.settleWork_keepsReports : KeepsReports State.settleWork := by
  intro s h
  have hwrite := State.settleWrite_keepsReports h
  rw [State.settleWork_eq]
  split
  · exact State.completeReset_keepsReports true hwrite
  · exact hwrite

theorem State.settle_keepsReports : KeepsReports State.settle :=
  fun _ h => State.takeCycles_keepsReports _ (State.takeUpdates_keepsReports _ (State.settleWork_keepsReports h))

/-- An event keeps the law when its own effect does. -/
theorem event_keepsReports {f : State → State} (hf : KeepsReports f) {s t : State} (h : s.rep.law)
    (ht : event f s = .next t) : t.rep.law := by
  rw [event_next] at ht
  cases ht
  split
  · exact h
  · exact hf (State.settle_keepsReports h)

/-- A service command's row keeps the law when its act does. -/
theorem request_keepsReports {op : State → State} (hop : KeepsReports op) {tag code : Byte} {p : List Byte} {s t : State}
    (h : s.rep.law) (ht : event (State.takeRequest tag code p op) s = .next t) : t.rep.law :=
  event_keepsReports (State.takeRequest_keepsReports hop tag code p) h ht

/-- A row that does one thing outright while RESETN is asserted and another otherwise keeps the law when both do. -/
theorem outright_keepsReports {f g : State → State} (hg : KeepsReports g) (hf : KeepsReports f) {s t : State} (h : s.rep.law)
    (ht : (if s.pins.resetn then Host.Outcome.next (φ := Fault) (ρ := Refusal) (g s) else .next (f s)) = .next t) :
    t.rep.law := by
  split at ht <;> cases ht
  · exact hg h
  · exact hf h

/-- A row that is one thing while RESETN is asserted and an event otherwise keeps the law when both do. -/
theorem rowInReset_keepsReports {f g : State → State} (hg : KeepsReports g) (hf : KeepsReports f) {s t : State}
    (h : s.rep.law) (ht : (if s.pins.resetn then .next (g s) else event f s) = .next t) : t.rep.law := by
  split at ht
  · cases ht
    exact hg h
  · exact event_keepsReports hf h ht

/-- A level that is kept of a line leaves the Report Unit. -/
theorem State.setPins_keepsReports (p : Pins → Pins) : KeepsReports fun s => { s with pins := p s.pins } := fun _ h => h

/-- Whatever command it carries out, the device keeps the law of the report queue. -/
theorem exec_keepsReports (c : Instr) {s t : State} (h : s.rep.law) (ht : exec c s = .next t) : t.rep.law := by
  cases c with
  | powerOnReset =>
    cases ht
    exact ReportUnit.law_reset false
  | resetnDeasserted =>
    exact outright_keepsReports (g := fun s => s.leaveReset.judgeAttn) (f := id) (fun _ h => h) (fun _ h => h) h ht
  | urstnAsserted =>
    exact rowInReset_keepsReports (State.setPins_keepsReports fun p => { p with urstn := true })
      State.updateReset_keepsReports h ht
  | urstnDeasserted =>
    exact rowInReset_keepsReports (State.setPins_keepsReports fun p => { p with urstn := false })
      (State.setPins_keepsReports fun p => { p with urstn := false }) h ht
  | crstnAsserted =>
    exact rowInReset_keepsReports (State.setPins_keepsReports fun p => { p with crstn := true })
      State.cycleReset_keepsReports h ht
  | crstnDeasserted =>
    exact rowInReset_keepsReports (State.setPins_keepsReports fun p => { p with crstn := false })
      (State.setPins_keepsReports fun p => { p with crstn := false }) h ht
  | updateTransactionTaken r =>
    exact rowInReset_keepsReports (g := State.presentUpdate r) (fun _ h => h) (State.requestUpdate_keepsReports r) h ht
  | heldWriteReconsidered =>
    exact outright_keepsReports (g := id) (f := fun s => s.settleWrite.judgeAttn) (fun _ h => h)
      State.settleWrite_keepsReports h ht
  | writeHoldExpired => exact event_keepsReports State.holdRunsOut_keepsReports h ht
  | cycleTransactionTaken r =>
    exact rowInReset_keepsReports (g := State.presentCycle r) (fun _ h => h) (State.requestCycle_keepsReports r) h ht
  | qualifyStart line =>
    exact rowInReset_keepsReports (State.lineInReset_keepsReports line true) (State.lineRises_keepsReports line) h ht
  | pulseDropped line =>
    exact rowInReset_keepsReports (State.lineInReset_keepsReports line false) (State.lineFalls_keepsReports line) h ht
  | pulseAccepted line => exact event_keepsReports (State.lineQualifies_keepsReports line) h ht
  | periodEnd => exact event_keepsReports State.periodEnds_keepsReports h ht
  | commitStart => exact event_keepsReports State.startCommit_keepsReports h ht
  | grant => exact event_keepsReports State.grantNext_keepsReports h ht
  | memoryAnswer ans => exact event_keepsReports (State.endAccess_keepsReports _) h ht
  | accessTimeout => exact event_keepsReports State.timeOut_keepsReports h ht
  | lateAnswer ans =>
    cases ht
    exact h
  | fullResetComplete =>
    exact outright_keepsReports (g := id) (f := fun s => s.settleWork.judgeAttn) (fun _ h => h)
      State.settleWork_keepsReports h ht
  | idleTimerRunOut => exact event_keepsReports State.idleRunsOut_keepsReports h ht
  | linkTransactionStart =>
    exact rowInReset_keepsReports (State.setPins_keepsReports fun p => { p with ssn := true })
      State.ssnFalls_keepsReports h ht
  | requestFrameDecided frame => exact event_keepsReports (State.requestFrame_keepsReports frame) h ht
  | requestDropped => exact event_keepsReports State.dropOpenRequest_keepsReports h ht
  | collect => exact event_keepsReports State.beginCollect_keepsReports h ht
  | ssnRises received bits =>
    exact rowInReset_keepsReports (g := State.ssnHigh) (fun _ h => h) (State.ssnRise_keepsReports received) h ht
  | ident tag => exact request_keepsReports State.ident_keepsReports h ht
  | windowSet tag args => exact request_keepsReports (State.windowSet_keepsReports args) h ht
  | windowDrop tag index => exact request_keepsReports (State.windowDrop_keepsReports index) h ht
  | windowRead tag index => exact request_keepsReports (State.windowRead_keepsReports index) h ht
  | windowClearRetry tag index => exact request_keepsReports (State.clearRetry_keepsReports index) h ht
  | windowClearAbandon tag index => exact request_keepsReports (State.clearAbandon_keepsReports index) h ht
  | batchClose tag index =>
    exact request_keepsReports (State.onActiveHeld_keepsReports index State.closeOpen_keepsReports) h ht
  | batchDiscardOpen tag index =>
    exact request_keepsReports (State.onActiveHeld_keepsReports index State.discardTargetOpen_keepsReports) h ht
  | batchDiscardWaiting tag index =>
    exact request_keepsReports (State.onActiveHeld_keepsReports index State.discardTargetWaiting_keepsReports) h ht
  | batchDiscardQueued tag index =>
    exact request_keepsReports (State.onActiveHeld_keepsReports index State.discardTargetQueued_keepsReports) h ht
  | batchList tag index => exact request_keepsReports (State.batchList_keepsReports index) h ht
  | undoRead tag start => exact request_keepsReports (State.undoRead_keepsReports start) h ht
  | gateHold tag | gateOpen tag => exact request_keepsReports (State.setGate_keepsReports _) h ht
  | gateRead tag => exact request_keepsReports State.replyGate_keepsReports h ht
  | timerSetMode _ _ _ _ _ | timerSetPeriod _ _ _ _ | timerSetQualifyA _ _ _ | timerSetQualifyB _ _ | timerSettingsRead _ =>
    exact request_keepsReports (State.timerSet_keepsReports _ _ _ _) h ht
  | limitsSetWriteHoldLimit _ _ _ _ _ | limitsSetMemoryAccessTimeout _ _ _ _ | limitsSetWatermark _ _ _
  | limitsSetIdleTime _ _ => exact request_keepsReports (State.limitsSet_keepsReports _ _ _ _) h ht
  | limitsRead tag => exact request_keepsReports State.limitsRead_keepsReports h ht
  | countersRead tag => exact request_keepsReports State.countersRead_keepsReports h ht
  | reportsTake tag => exact request_keepsReports State.reportsTake_keepsReports h ht
  | memoryProbeMemory tag addr | memoryProbeUpdate tag addr =>
    exact request_keepsReports (State.memoryProbe_keepsReports _ addr) h ht
  | partResetBatches tag => exact request_keepsReports State.partResetBatches_keepsReports h ht
  | partResetFull tag => exact request_keepsReports State.partResetFull_keepsReports h ht

theorem idleStep_keepsReports {s t : State} (h : s.rep.law) (ht : idleStep s = .next t) : t.rep.law := by
  have hmicrosecond : s.microsecond.rep.law := State.elapse_keepsReports 1 h
  unfold idleStep at ht
  split at ht
  · cases ht
    exact hmicrosecond
  · split at ht
    · cases ht
      exact State.settle_keepsReports h
    · split at ht
      · exact exec_keepsReports _ h ht
      · cases ht
        exact hmicrosecond

theorem step_keepsReports {s t : State} (h : s.rep.law) (ht : step s = .next t) : t.rep.law := by
  unfold step at ht
  split at ht
  · next c rest _ => exact exec_keepsReports c (s := { s with pending := rest }) h ht
  · exact idleStep_keepsReports h ht

/-- Settles O56: what a step does to the Report Unit it does by records, takes of records, resets and time, each of which keeps the
law. -/
theorem reportQueueLawKept : Obligations.ReportQueueLawKept :=
  ⟨fun _ _ => step_keepsReports, ReportUnit.law_reset false⟩

end Sys2Proof.Machine
end

section
/-! SUPPORT. Request frames (R160 to R162, R168, R183, R184): the CRC-8, what the bytes of a frame are read as, and what deciding a frame
does. Every service-command row is the event of its own frame's payload dispatched by its code. -/

namespace Sys2Proof.Machine

/-! ### The CRC-8 (R161, R183) -/

theorem crc8_append (bytes : List Byte) (b : Byte) : crc8 (bytes ++ [b]) = crcByte (crc8 bytes) b := by
  rw [crc8, List.foldl_append]
  rfl

theorem crcShift_eq (r : Byte) : crcShift r = if r.getLsbD 7 then (r <<< 1) ^^^ 0x07 else r <<< 1 := by
  rw [crcShift, BitVec.msb_eq_getLsbD_last]

theorem crcByte_eq_foldl (r b : Byte) : crcByte r b =
    (List.range 8).foldl
      (fun (register : Byte) _ => if register.getLsbD 7 then (register <<< 1) ^^^ 0x07 else register <<< 1) (r ^^^ b) := by
  simp only [← crcShift_eq]
  rfl

/-! ### Reading a frame (R159, R160) -/

theorem num8_toNat {n : Nat} (h : n ≤ 60) : (num8 n).toNat = n := by
  rw [num8, BitVec.toNat_ofNat]
  omega

/-- The bytes of a frame, its last byte whatever it is and any bytes behind it. -/
theorem parseFrame_body {payload : List Byte} (h : payload.length ≤ 60) (tag code c : Byte) (more : List Byte) :
    parseFrame (([0xC1, tag, code, num8 payload.length] ++ payload) ++ c :: more) =
      some ⟨tag, code, payload, crc8 ([0xC1, tag, code, num8 payload.length] ++ payload) == c⟩ := by
  have hlen := num8_toNat h
  simp [parseFrame, hlen, h, Config.largestPayload]

theorem parseFrame_requestFrame {payload : List Byte} (h : payload.length ≤ 60) (tag code : Byte) (more : List Byte) :
    parseFrame (requestFrame tag code payload ++ more) = some ⟨tag, code, payload, true⟩ := by
  have hbody : requestFrame tag code payload ++ more = ([0xC1, tag, code, num8 payload.length] ++ payload) ++
      crc8 ([0xC1, tag, code, num8 payload.length] ++ payload) :: more := List.append_assoc ..
  rw [hbody, parseFrame_body h, beq_self_eq_true]

theorem parseFrame_of_short {bytes : List Byte} (h : bytes.length < 4) : parseFrame bytes = none := by
  unfold parseFrame
  split
  · simp only [List.length_cons] at h
    omega
  · rfl

theorem parseFrame_of_incomplete {kind tag code len : Byte} {rest : List Byte}
    (h : kind ≠ 0xC1 ∨ 60 < len.toNat ∨ rest.length ≤ len.toNat) : parseFrame (kind :: tag :: code :: len :: rest) = none := by
  rw [parseFrame]
  split
  · next hhead =>
    obtain ⟨hkind, hlen⟩ := hhead
    have hshort : rest.length ≤ len.toNat := by
      rcases h with h | h | h
      · exact absurd hkind h
      · exact absurd h (Nat.not_lt.2 hlen)
      · exact h
    rw [List.getElem?_eq_none hshort]
  · rfl

/-- A frame that is read at all begins with the frame kind REQUEST. -/
theorem parseFrame_eq_some {bytes : List Byte} {f : RequestFrame} (h : parseFrame bytes = some f) :
    ∃ rest, bytes = 0xC1 :: rest := by
  unfold parseFrame at h
  split at h
  · split at h
    · next hhead =>
      obtain ⟨rfl, -⟩ := hhead
      exact ⟨_, rfl⟩
    · cases h
  · cases h

/-! ### Deciding a frame (R162) -/

section
variable {t : LinkTxn} {tag code : Byte} {payload frame : List Byte} {f : RequestFrame} {r : Result} {s : State}

theorem State.undecided_of_kindPending (hl : s.svc.link = some t) (hp : t.phase = .kindPending) : s.undecided = some t := by
  simp only [State.undecided, hl, hp]

/-- A frame of a transaction that began with the slot IDLE is decided as it is (R162). -/
theorem State.requestFrame_of_showedIdle (hl : s.svc.link = some t) (hp : t.phase = .kindPending)
    (hshow : showedIdle t.status = true) (hf : parseFrame frame = some f) : s.requestFrame frame = s.decideFrame f := by
  simp only [State.requestFrame, State.undecided_of_kindPending hl hp, hf, hshow, if_true]

/-- A frame of a transaction that began with the slot WORKING or READY is dropped (R163). -/
theorem State.requestFrame_of_showedBusy (hl : s.svc.link = some t) (hp : t.phase = .kindPending)
    (hshow : showedIdle t.status = false) (hf : parseFrame frame = some f) :
    s.requestFrame frame = s.endFrame.dropRequest := by
  simp only [State.requestFrame, State.undecided_of_kindPending hl hp, hf, hshow, Bool.false_eq_true, if_false]

/-- The frame of a command is a good one, and its payload is dispatched by its code (R168). -/
theorem exec_requestFrameDecided_good (h : s.takesCommands) (hl : s.svc.link = some t) (hp : t.phase = .kindPending)
    (hshow : showedIdle t.status = true) (hlen : payload.length ≤ 60) :
    exec (.requestFrameDecided (requestFrame tag code payload)) s =
      event (State.takeRequest tag code payload (dispatch code payload)) s := by
  have hf := parseFrame_requestFrame hlen tag code []
  rw [List.append_nil] at hf
  change event (State.requestFrame _) s = _
  rw [event_of_settled _ _ h.1, event_of_settled _ _ h.1, State.requestFrame_of_showedIdle hl hp hshow hf]
  rfl

/-- A request that the dispatch refuses changes only the slot (R168, R170). -/
theorem exec_requestFrameDecided_refused (h : s.takesCommands) (hl : s.svc.link = some t) (hp : t.phase = .kindPending)
    (hshow : showedIdle t.status = true) (hlen : payload.length ≤ 60) (hd : dispatch code payload = State.refuse r) :
    exec (.requestFrameDecided (requestFrame tag code payload)) s = .next (State.answered tag r [] s) := by
  rw [exec_requestFrameDecided_good h hl hp hshow hlen]
  exact event_takeRequest_only_answered h (congrFun hd _)

end

/-! ### Fields read back from a payload (R181, R184) -/

theorem half_be16 (x : Half) : half (x.extractLsb' 8 8) (x.extractLsb' 0 8) = x := by
  rw [half, BitVec.extractLsb'_append_extractLsb'_eq_extractLsb' (by rfl)]
  exact BitVec.extractLsb'_eq_self

theorem word_be32 (x : Word) :
    word (x.extractLsb' 24 8) (x.extractLsb' 16 8) (x.extractLsb' 8 8) (x.extractLsb' 0 8) = x := by
  rw [word, BitVec.extractLsb'_append_extractLsb'_eq_extractLsb' (by rfl),
    BitVec.extractLsb'_append_extractLsb'_eq_extractLsb' (by rfl), BitVec.extractLsb'_append_extractLsb'_eq_extractLsb' (by rfl)]
  exact BitVec.extractLsb'_eq_self

/-- A presence set has a bit for each present field and no bit above bit 3. -/
theorem presenceSet_bits {α β γ δ : Type} (a : Option α) (b : Option β) (c : Option γ) (d : Option δ) {set : Byte}
    (h : set = presenceBit 0x01 a ||| presenceBit 0x02 b ||| presenceBit 0x04 c ||| presenceBit 0x08 d) :
    (set &&& 0x01 = 0x00 ↔ a.isSome = false) ∧ (set &&& 0x02 = 0x00 ↔ b.isSome = false) ∧
      (set &&& 0x04 = 0x00 ↔ c.isSome = false) ∧ (set &&& 0x08 = 0x00 ↔ d.isSome = false) ∧ set &&& 0xF0 = 0x00 := by
  subst h
  unfold presenceBit
  generalize a.isSome = a, b.isSome = b, c.isSome = c, d.isSome = d
  revert a b c d
  decide

/-- A field behind its presence bit is read back as it was sent. -/
theorem present_getD {α : Type} {set bit : Byte} {x : Option α} (default : α) (h : set &&& bit = 0x00 ↔ x.isSome = false) :
    present set bit (x.getD default) = x := by
  unfold present
  cases x with
  | none => exact if_pos (h.2 rfl)
  | some x => exact if_neg fun hbit => Bool.noConfusion (h.1 hbit)

theorem onTimer_timerBytes (mode : Option Byte) (period : Option Half) (qa qb : Option Byte) :
    onTimer (timerBytes mode period qa qb) = State.timerSet mode period qa qb := by
  obtain ⟨hmode, hperiod, ha, hb, -⟩ := presenceSet_bits mode period qa qb rfl
  change State.timerSet (present _ _ _) (present _ _ (half _ _)) (present _ _ _) (present _ _ _) = _
  rw [half_be16, present_getD 0 hmode, present_getD 0 hperiod, present_getD 0 ha, present_getD 0 hb]

theorem onLimits_limitsBytes (hold : Option Half) (timeout watermark idle : Option Byte) :
    onLimits (limitsBytes hold timeout watermark idle) = State.limitsSet hold timeout watermark idle := by
  obtain ⟨hhold, ht, hw, hi, hhigh⟩ := presenceSet_bits hold timeout watermark idle rfl
  change (if _ &&& 0xF0 = 0x00 then
    State.limitsSet (present _ _ (half _ _)) (present _ _ _) (present _ _ _) (present _ _ _) else _) = _
  rw [if_pos hhigh, half_be16, present_getD 0 hhold, present_getD 0 ht, present_getD 0 hw, present_getD 0 hi]

theorem onDescriptor_setBytes (a : WindowSetArgs) : onDescriptor (setBytes a) = State.windowSet a := by
  change State.windowSet ⟨_, word _ _ _ _, word _ _ _ _, _, _, _, _, _, _, _, _, word _ _ _ _, _⟩ = _
  rw [word_be32, word_be32, word_be32]

theorem onProbe_memory (addr : Word) : onProbe (be32 addr ++ [0x01]) = State.memoryProbe .memory addr := by
  change State.memoryProbe .memory (word _ _ _ _) = _
  rw [word_be32]

theorem onProbe_update (addr : Word) : onProbe (be32 addr ++ [0x02]) = State.memoryProbe .update addr := by
  change State.memoryProbe .update (word _ _ _ _) = _
  rw [word_be32]

/-! ### Rows and their frames (R184; log 5) -/

/-- What stands behind a service command's row: a request frame, whose payload is dispatched as if its bytes had come. -/
def SentAs (c : Instr) (frame : List Byte) : Prop :=
  ∃ tag code payload, payload.length ≤ 60 ∧ frame = requestFrame tag code payload ∧
    exec c = event (State.takeRequest tag code payload (dispatch code payload))

/-- A row whose act is the one that its payload dispatches to. -/
theorem sentAs_of_dispatch {c : Instr} {tag code : Byte} {payload frame : List Byte} {op : State → State}
    (hframe : some (requestFrame tag code payload) = some frame) (hlen : payload.length ≤ 60)
    (hexec : exec c = event (State.takeRequest tag code payload op)) (hd : dispatch code payload = op) : SentAs c frame :=
  ⟨tag, code, payload, hlen, (Option.some.inj hframe).symm, hd ▸ hexec⟩

theorem sentAs_of_requestOf {c : Instr} {frame : List Byte} (h : requestOf c = some frame) : SentAs c frame := by
  have hlen : ∀ {p : List Byte}, p.length.ble 60 = true → p.length ≤ 60 := Nat.le_of_ble_eq_true
  cases c with
  | windowSet _ a => exact sentAs_of_dispatch h (hlen rfl) rfl (onDescriptor_setBytes a)
  | timerSetMode _ m p a b => exact sentAs_of_dispatch h (hlen rfl) rfl (onTimer_timerBytes (some m) p a b)
  | timerSetPeriod _ p a b => exact sentAs_of_dispatch h (hlen rfl) rfl (onTimer_timerBytes none (some p) a b)
  | timerSetQualifyA _ a b => exact sentAs_of_dispatch h (hlen rfl) rfl (onTimer_timerBytes none none (some a) b)
  | timerSetQualifyB _ b => exact sentAs_of_dispatch h (hlen rfl) rfl (onTimer_timerBytes none none none (some b))
  | timerSettingsRead _ => exact sentAs_of_dispatch h (hlen rfl) rfl (onTimer_timerBytes none none none none)
  | limitsSetWriteHoldLimit _ l t w i => exact sentAs_of_dispatch h (hlen rfl) rfl (onLimits_limitsBytes (some l) t w i)
  | limitsSetMemoryAccessTimeout _ t w i => exact sentAs_of_dispatch h (hlen rfl) rfl (onLimits_limitsBytes none (some t) w i)
  | limitsSetWatermark _ w i => exact sentAs_of_dispatch h (hlen rfl) rfl (onLimits_limitsBytes none none (some w) i)
  | limitsSetIdleTime _ i => exact sentAs_of_dispatch h (hlen rfl) rfl (onLimits_limitsBytes none none none (some i))
  | memoryProbeMemory _ addr => exact sentAs_of_dispatch h (hlen rfl) rfl (onProbe_memory addr)
  | memoryProbeUpdate _ addr => exact sentAs_of_dispatch h (hlen rfl) rfl (onProbe_update addr)
  | ident _ | windowDrop _ _ | windowRead _ _ | windowClearRetry _ _ | windowClearAbandon _ _ | batchClose _ _
  | batchDiscardOpen _ _ | batchDiscardWaiting _ _ | batchDiscardQueued _ _ | batchList _ _ | undoRead _ _ | gateHold _
  | gateOpen _ | gateRead _ | limitsRead _ | countersRead _ | reportsTake _ | partResetBatches _ | partResetFull _ =>
    exact sentAs_of_dispatch h (hlen rfl) rfl rfl
  | _ => cases h

/-- Settles O41: the row's frame is read as its tag, code and payload, which dispatch to the row's own act; then what any bytes are
read as, and the CRC-8 byte by byte. -/
theorem requestFrameRunsItsCommand : Obligations.RequestFrameRunsItsCommand := by
  refine ⟨?_, ?_, ?_, ?_, ?_⟩
  · intro c frame t s hc h hl hp hshow
    obtain ⟨tag, code, payload, hlen, rfl, hexec⟩ := sentAs_of_requestOf hc
    rw [exec_requestFrameDecided_good h hl hp hshow hlen, hexec]
  · exact fun tag code payload more hlen => parseFrame_requestFrame hlen tag code more
  · exact fun bytes b => ⟨rfl, (crc8_append bytes b).trans (crcByte_eq_foldl _ b)⟩
  · rintro tag code c payload more body hlen rfl
    exact ⟨rfl, parseFrame_body hlen tag code c more⟩
  · rintro bytes rest kind tag code len (hshort | ⟨rfl, hbad⟩)
    · exact parseFrame_of_short hshort
    · exact parseFrame_of_incomplete hbad

end Sys2Proof.Machine
end

section
/-! SUPPORT. What a good request is refused for (R168, R172, R184), and IDENT, LIMITS_READ, COUNTERS_READ and LIMITS_SET (R171 to R175). -/

namespace Sys2Proof.Machine

/-! ### Requests that the dispatch refuses (R168, R184) -/

/-- The command codes, each with the length of its payload (R184). -/
def payloadLengths : List (Byte × Nat) :=
  [(0x01, 0), (0x10, 22), (0x11, 1), (0x12, 1), (0x13, 2), (0x20, 1), (0x21, 2), (0x22, 1), (0x30, 1), (0x31, 1), (0x40, 6),
    (0x50, 6), (0x51, 0), (0x52, 0), (0x60, 0), (0x70, 5), (0x7F, 1)]

/-- An act on a payload that refuses every payload of another length. -/
abbrev WantsLength (n : Nat) (act : List Byte → State → State) : Prop :=
  ∀ p : List Byte, p.length ≠ n → act p = State.refuse .badArgument

theorem onEmpty_wantsLength (op : State → State) : WantsLength 0 (onEmpty op) := by
  intro p h
  unfold onEmpty
  split
  · exact absurd rfl h
  · rfl

theorem onByte_wantsLength (op : Byte → State → State) : WantsLength 1 (onByte op) := by
  intro p h
  unfold onByte
  split
  · exact absurd rfl h
  · rfl

theorem onDescriptor_wantsLength : WantsLength 22 onDescriptor := by
  intro p h
  unfold onDescriptor
  split
  · exact absurd rfl h
  · rfl

theorem onClear_wantsLength : WantsLength 2 onClear := by
  intro p h
  unfold onClear
  split
  · exact absurd rfl h
  · rfl

theorem onDiscard_wantsLength : WantsLength 2 onDiscard := by
  intro p h
  unfold onDiscard
  split
  · exact absurd rfl h
  · rfl

theorem onGate_wantsLength : WantsLength 1 onGate := by
  intro p h
  unfold onGate
  split
  · exact absurd rfl h
  · rfl

theorem onTimer_wantsLength : WantsLength 6 onTimer := by
  intro p h
  unfold onTimer
  split
  · exact absurd rfl h
  · rfl

theorem onLimits_wantsLength : WantsLength 6 onLimits := by
  intro p h
  unfold onLimits
  split
  · exact absurd rfl h
  · rfl

theorem onProbe_wantsLength : WantsLength 5 onProbe := by
  intro p h
  unfold onProbe
  split
  · exact absurd rfl h
  · rfl

theorem onPartReset_wantsLength : WantsLength 1 onPartReset := by
  intro p h
  unfold onPartReset
  split
  · exact absurd rfl h
  · rfl

/-- A payload that is not of the command's length is refused (R168). -/
theorem dispatch_of_length {code : Byte} {len : Nat} {payload : List Byte} (h : (code, len) ∈ payloadLengths)
    (hlen : payload.length ≠ len) : dispatch code payload = State.refuse .badArgument := by
  have hrows : ∀ row ∈ payloadLengths, WantsLength row.2 (dispatch row.1) := by
    simp only [payloadLengths, List.forall_mem_cons]
    exact ⟨onEmpty_wantsLength _, onDescriptor_wantsLength, onByte_wantsLength _, onByte_wantsLength _, onClear_wantsLength,
      onByte_wantsLength _, onDiscard_wantsLength, onByte_wantsLength _, onByte_wantsLength _, onGate_wantsLength,
      onTimer_wantsLength, onLimits_wantsLength, onEmpty_wantsLength _, onEmpty_wantsLength _, onEmpty_wantsLength _,
      onProbe_wantsLength, onPartReset_wantsLength, nofun⟩
  exact hrows _ h _ hlen

/-- A code that names no command is refused (R168). -/
theorem dispatch_of_unknown {code : Byte} (h : code ∉ payloadLengths.map (·.1)) (payload : List Byte) :
    dispatch code payload = State.refuse .badCommand := by
  have hcodes : commandTable.map (·.1) = payloadLengths.map (·.1) := rfl
  have hnone : commandTable.find? (·.1 == code) = none := by
    refine List.find?_eq_none.2 fun row hrow hcode => h ?_
    rw [← hcodes, ← eq_of_beq hcode]
    exact List.mem_map_of_mem hrow
  simp only [dispatch, hnone]

/-- GATE's action is one of three (R82). -/
theorem onGate_undefined {b : Byte} (h : b ∉ ([0x00, 0x01, 0x02] : List Byte)) : onGate [b] = State.refuse .badArgument := by
  simp only [List.mem_cons, List.not_mem_nil, or_false, not_or] at h
  obtain ⟨h0, h1, h2⟩ := h
  rw [onGate, if_neg h0, if_neg h1, if_neg h2]

/-- WINDOW_CLEAR's action is one of two (R111). -/
theorem onClear_undefined {b : Byte} (h : b ∉ ([0x01, 0x02] : List Byte)) (i : Byte) :
    onClear [i, b] = State.refuse .badArgument := by
  simp only [List.mem_cons, List.not_mem_nil, or_false, not_or] at h
  obtain ⟨h1, h2⟩ := h
  rw [onClear, if_neg h1, if_neg h2]

/-- BATCH_DISCARD's target is one of three (R37). -/
theorem onDiscard_undefined {b : Byte} (h : b ∉ ([0x01, 0x02, 0x03] : List Byte)) (i : Byte) :
    onDiscard [i, b] = State.refuse .badArgument := by
  simp only [List.mem_cons, List.not_mem_nil, or_false, not_or] at h
  obtain ⟨h1, h2, h3⟩ := h
  rw [onDiscard, if_neg h1, if_neg h2, if_neg h3]

/-- MEMORY_PROBE's view is one of two (R138). -/
theorem onProbe_undefined {b : Byte} (h : b ∉ ([0x01, 0x02] : List Byte)) (a : Word) :
    onProbe (be32 a ++ [b]) = State.refuse .badArgument := by
  simp only [List.mem_cons, List.not_mem_nil, or_false, not_or] at h
  obtain ⟨h1, h2⟩ := h
  rw [be32, List.cons_append, List.cons_append, List.cons_append, List.cons_append, List.nil_append, onProbe, if_neg h1,
    if_neg h2]

/-- PART_RESET's scope is one of two (R176). -/
theorem onPartReset_undefined {b : Byte} (h : b ∉ ([0x01, 0x02] : List Byte)) :
    onPartReset [b] = State.refuse .badArgument := by
  simp only [List.mem_cons, List.not_mem_nil, or_false, not_or] at h
  obtain ⟨h1, h2⟩ := h
  rw [onPartReset, if_neg h1, if_neg h2]

/-- LIMITS_SET's presence set has no bit above bit 3 (R172). -/
theorem onLimits_undefined {b : Byte} (h : 16 ≤ b.toNat) (h1 h0 k w d : Byte) :
    onLimits [b, h1, h0, k, w, d] = State.refuse .badArgument := by
  have hhigh : ∀ b : Byte, 16 ≤ b.toNat → b &&& 0xF0 ≠ 0x00 := by decide
  rw [onLimits, if_neg (hhigh b h)]

/-! ### IDENT, LIMITS_READ, COUNTERS_READ (R171, R174, R175) -/

section
variable {tag : Byte} {s : State}

theorem exec_ident (h : s.takesCommands) : exec (.ident tag) s = .next (State.answered tag .ok identPayload s) :=
  event_takeRequest_only_answered (op := State.ident) h rfl

theorem exec_limitsRead (h : s.takesCommands) :
    exec (.limitsRead tag) s = .next (State.answered tag .ok (limitsPayload s) s) :=
  event_takeRequest_only_answered (op := State.limitsRead) h rfl

/-- The dropped-request count is the one that the request found, since it was not dropped itself. -/
theorem exec_countersRead (h : s.takesCommands) :
    exec (.countersRead tag) s = .next (State.answered tag .ok (countersPayload s) s) := by
  have hdropped : (s.inSlot tag 0x52 []).svc.dropped = s.svc.dropped := s.endFrame_svc.2.1
  refine event_takeRequest_only_answered (op := State.countersRead) h ?_
  rw [State.countersRead, countersPayload, hdropped]
  rfl

end

/-- Settles O45: each of the three answers its payload over the state as it stands, and wants an empty payload. -/
theorem identLimitsAndCounters : Obligations.IdentLimitsAndCounters := by
  refine ⟨fun tag s h => exec_ident h, fun tag s h => exec_limitsRead h, fun tag s h => exec_countersRead h, ?_⟩
  intro tag code payload t s h hl hp hshow hcode hne hlen
  have hrow : (code, 0) ∈ payloadLengths := by
    rcases hcode with rfl | rfl | rfl <;> decide
  exact exec_requestFrameDecided_refused h hl hp hshow hlen
    (dispatch_of_length hrow fun h0 => hne (List.length_eq_zero_iff.1 h0))

/-! ### LIMITS_SET (R172, R173) -/

/-- The row that carries these limits is a LIMITS_SET command with them. -/
theorem exec_limitsRow {tag : Byte} {hold : Option Half} {timeout watermark idle : Option Byte} {c : Instr}
    (h : limitsRow tag hold timeout watermark idle = some c) :
    exec c = event (State.takeRequest tag 0x50 (limitsBytes hold timeout watermark idle)
      (State.limitsSet hold timeout watermark idle)) := by
  unfold limitsRow at h
  split at h <;> cases h <;> rfl

/-- A written idle time restarts the idle timer (R154, R173). -/
theorem ReportUnit.writeIdle_eq (idle : Option Byte) (r : ReportUnit) : r.writeIdle idle = { r with
    idleTime := idle.getD r.idleTime
    idleElapsed := if idle.isSome then 0 else r.idleElapsed
    idleRunOut := if idle.isSome then false else r.idleRunOut } := by
  cases idle <;> rfl

/-- Settles O46: the checks are those of the statement, and the present limits are written before the answer is formed. -/
theorem limitsSet : Obligations.LimitsSet := by
  refine ⟨?_, ?_⟩
  · intro tag hold timeout watermark idle c s h hrow hok
    rw [exec_limitsRow hrow]
    refine event_takeRequest_answered h (by rfl) ?_
    rw [State.limitsSet, limitsOk_eq, if_pos hok, State.limitsRead, limitsPayload, State.writeLimits,
      ReportUnit.writeIdle_eq]
    rfl
  · intro tag hold timeout watermark idle c s h hrow hbad
    rw [exec_limitsRow hrow]
    refine event_takeRequest_only_answered h ?_
    rw [State.limitsSet, limitsOk_eq, hbad, if_neg Bool.false_ne_true, State.refuse]

end Sys2Proof.Machine
end

section
/-! SUPPORT. PART_RESET (R44, R97, R176 to R178): the batch-discarding reset, and the full reset at once, pending and completed. -/

namespace Sys2Proof.Machine

/-! ### PART_RESET BATCHES (R44, R176) -/

theorem State.faultHeld_eq (s : State) : s.faultHeld = { s with
    upd := match s.upd.state with
      | .held _ _ _ => { s.upd with state := .idle, answer := some .fault }
      | _ => s.upd } := by
  obtain ⟨_, _, _, ⟨state, _, _⟩, _, _, _, _, _, _, _⟩ := s
  cases state <;> rfl

/-- Settles O8: the held write's FAULT touches no batch, so the batches counted are those discarded. -/
theorem partResetBatches : Obligations.PartResetBatches := by
  intro s tag h
  refine event_takeRequest_answered (op := State.partResetBatches) h (by rfl) ?_
  rw [State.partResetBatches, State.discardAll_eq, State.resetCount_eq, State.faultHeld_eq]
  rfl

/-! ### PART_RESET FULL (R97, R177, R178) -/

/-- The completion of a full reset leaves the values of R178, and answers the command in the slot. -/
theorem State.completeReset_eq (waited : Bool) (s : State) :
    s.completeReset waited = s.fullyReset.reply .ok [flagByte waited, s.engine.state.code] := by
  rw [State.completeReset, State.faultHeld_eq]
  rfl

/-- A full reset counts no dropped request, and is of no concern to a link transaction. -/
theorem State.endFrame_fullyReset (s : State) : s.fullyReset.endFrame.svc = { s.endFrame.svc with dropped := 0 } := by
  cases hlink : s.svc.link with
  | none => simp only [State.endFrame, State.fullyReset, hlink]
  | some t => cases hphase : t.phase <;> simp only [State.endFrame, State.fullyReset, hlink, hphase]

/-- ATTN as it stands does not matter to a reset after which it is judged. -/
theorem State.completeReset_judgeAttn (waited : Bool) (s : State) :
    (s.judgeAttn.completeReset waited).judgeAttn = (s.completeReset waited).judgeAttn := by
  rw [State.completeReset_eq, State.completeReset_eq]
  cases hslot : s.svc.slot <;> simp only [State.reply, State.fullyReset, State.judgeAttn_svc, hslot] <;> rfl

/-- The state with a full reset pending (R177). -/
def State.resetPending (s : State) : State := { s with engine := { s.engine with fullReset := true } }

theorem State.partResetFull_eq (s : State) : s.partResetFull =
    if s.resetPending.fullResetDue then s.resetPending.completeReset false else s.resetPending := rfl

/-- The pending reset is due at once with the engine at rest. -/
theorem State.resetPending_fullResetDue (s : State) :
    s.resetPending.fullResetDue = true ↔ s.engine.state = .idle ∨ s.engine.state = .halted := by
  rw [State.fullResetDue_iff]
  exact and_iff_right rfl

section
variable {tag code : Byte} {payload : List Byte} {s : State}

/-- A full reset with the engine at rest completes at the same event (R177). -/
theorem exec_partResetFull_atRest (h : s.takesCommands) (hrest : s.engine.state = .idle ∨ s.engine.state = .halted) :
    exec (.partResetFull tag) s = .next (State.answered tag .ok [0x00, s.engine.state.code] s.fullyReset) := by
  have hdue := (s.inSlot tag 0x7F [0x02]).resetPending_fullResetDue.2 hrest
  refine (event_takeRequest tag 0x7F [0x02] State.partResetFull s h).trans ?_
  change Host.Outcome.next (State.partResetFull (s.inSlot tag 0x7F [0x02])).judgeAttn = _
  rw [State.partResetFull_eq, if_pos hdue, State.completeReset_eq, State.answered, State.endFrame_fullyReset]
  rfl

/-- With the engine at work a full reset is left pending and the slot WORKING (R177). -/
theorem exec_partResetFull_atWork (h : s.takesCommands)
    (hwork : s.engine.state = .committing ∨ s.engine.state = .rollingBack) :
    exec (.partResetFull tag) s =
      .next (State.working tag 0x7F [0x02] { s with engine := { s.engine with fullReset := true } }) := by
  have hnot : ¬ (s.inSlot tag 0x7F [0x02]).resetPending.fullResetDue = true := by
    rw [State.resetPending_fullResetDue]
    rintro (hrest | hrest) <;> rcases hwork with hw | hw <;> cases hw.symm.trans hrest
  refine (event_takeRequest tag 0x7F [0x02] State.partResetFull s h).trans ?_
  change Host.Outcome.next (State.partResetFull (s.inSlot tag 0x7F [0x02])).judgeAttn = _
  rw [State.partResetFull_eq, if_neg hnot, State.working, State.endFrame_svc_congr (s := s) (by rfl)]
  rfl

/-- A pending full reset with the engine at rest completes, and the command that asked for it is answered (R178). -/
theorem exec_fullResetComplete_due (h : s.pins.resetn = false) (hrec : s.reconsiderDue = false) (hdue : s.fullResetDue = true)
    (hslot : s.svc.slot = .working tag code payload) :
    exec .fullResetComplete s = .next (State.judgeAttn { s.fullyReset with
      svc := { s.svc with dropped := 0, slot := .ready tag .ok [0x01, s.engine.state.code] } }) := by
  have hwrite : s.settleWrite = s := by rw [State.settleWrite, hrec, if_neg Bool.false_ne_true]
  have hreset : s.fullyReset.svc.slot = .working tag code payload := hslot
  rw [exec_fullResetComplete h, State.settleWork_eq, hwrite, if_pos hdue, State.completeReset_eq,
    State.reply_working _ _ _ _ _ _ hreset]
  rfl

/-- What a completion does with no reconsideration due, it does from the same state with ATTN judged. -/
theorem State.settleWork_judgeAttn (hrec : s.reconsiderDue = false) : s.judgeAttn.settleWork.judgeAttn = s.settleWork.judgeAttn := by
  cases hdue : s.fullResetDue with
  | true =>
    have hjudged : s.judgeAttn.fullResetDue = true := hdue
    have hrec' : s.judgeAttn.reconsiderDue = false := hrec
    simp only [State.settleWork, hrec, hrec', hdue, hjudged, Bool.false_eq_true, if_false, if_true]
    exact State.completeReset_judgeAttn true s
  | false =>
    rw [State.settleWork_of_notDue hrec hdue, State.settleWork_of_notDue (s := s.judgeAttn) hrec hdue]
    rfl

end

/-- Settles O9: the row by the engine's state, and its completion by what is due, a reconsideration first. -/
theorem partResetFull : Obligations.PartResetFull := by
  refine ⟨fun s tag h hrest => exec_partResetFull_atRest h hrest, fun s tag h hwork => exec_partResetFull_atWork h hwork,
    ?_, ?_, ?_⟩
  · intro s tag code payload h hrec hfull hrest hslot
    exact exec_fullResetComplete_due h hrec ((State.fullResetDue_iff s).2 ⟨hfull, hrest⟩) hslot
  · intro s u h hdue hu
    rw [exec_heldWriteReconsidered h] at hu
    cases hu
    have hrec := State.settleWrite_notDue s
    have hafter : s.settleWrite.pins = s.pins := congrArg Settings.pins (State.settleWrite_settings s)
    have hresetn : s.settleWrite.judgeAttn.pins.resetn = false := by rw [State.judgeAttn_pins, hafter, h]
    have hagain : s.settleWrite.settleWrite = s.settleWrite := if_neg (Bool.eq_false_iff.1 hrec)
    have hwork : s.settleWork = s.settleWrite.settleWork := by rw [State.settleWork_eq s, State.settleWork_eq, hagain]
    refine ⟨hrec, ?_⟩
    rw [exec_fullResetComplete h, exec_fullResetComplete hresetn, State.settleWork_judgeAttn hrec, hwork]
  · intro s h hrec hnot
    have hfull : ¬ s.fullResetDue = true := by
      rw [State.fullResetDue_iff]
      rintro ⟨hfull, hrest⟩
      rcases hnot with hnot | ⟨hidle, hhalted⟩
      · cases hnot.symm.trans hfull
      · exact hrest.elim hidle hhalted
    rw [exec_fullResetComplete h, State.settleWork_of_notDue hrec (Bool.eq_false_iff.2 hfull)]

end Sys2Proof.Machine
end

section
/-! SUPPORT. What becomes of a link transaction over a step (R159, R164, R165). No operation of another block reaches the link transaction
in progress, and no command does (`KeepsLink`), but for the decision of its frame and the edges of SSN and RESETN. -/

namespace Sys2Proof.Machine

/-- An operation that leaves the link transaction in progress. -/
abbrev KeepsLink (f : State → State) : Prop := ∀ s : State, (f s).svc.link = s.svc.link

/-! ### Records, answers and batches -/

@[simp] theorem State.reply_link (r : Result) (q : List Byte) : KeepsLink (State.reply r q) := by
  intro s
  unfold State.reply
  split <;> rfl

@[simp] theorem State.refuse_link (r : Result) : KeepsLink (State.refuse r) := State.reply_link r []

@[simp] theorem State.faultHeld_link : KeepsLink State.faultHeld := by
  intro s
  simp [State.faultHeld_frame]

@[simp] theorem State.faultHeldOf_link (i : WIdx) : KeepsLink (State.faultHeldOf i) := by
  intro s
  simp [State.faultHeldOf_frame]

@[simp] theorem State.discardOpen_link (i : WIdx) (cause : DiscardCause) : KeepsLink (State.discardOpen i cause) := by
  intro s
  simp [State.discardOpen_frame]

@[simp] theorem State.discardClosed_link (i : WIdx) (cause : DiscardCause) : KeepsLink (State.discardClosed i cause) := by
  intro s
  rw [State.discardClosed, State.foldl_record (fun b : WaitBatch => .batchDiscarded i b.id cause)]
  rfl

@[simp] theorem State.discardQueued_link (i : WIdx) (cause : DiscardCause) : KeepsLink (State.discardQueued i cause) := by
  intro s
  simp [State.discardQueued_frame]

@[simp] theorem State.discardAll_link (scope : ResetScope) : KeepsLink (State.discardAll scope) := by
  intro s
  rw [State.discardAll_eq]

@[simp] theorem State.queueImmediate_link (i : WIdx) : KeepsLink (State.queueImmediate i) := by
  intro s
  simp [State.queueImmediate_frame]

@[simp] theorem State.closeBatch_link (i : WIdx) (id : Half) (es : List Entry) (cause : CloseCause) :
    KeepsLink (State.closeBatch i id es cause) := by
  intro s
  simp [State.closeBatch_frame]

/-! ### Time, epochs and the lines -/

@[simp] theorem State.elapse_link (n : Nat) : KeepsLink (State.elapse n) := by
  intro s
  unfold State.elapse
  split <;> rfl

@[simp] theorem State.giveEpoch_link (src : EpochSource) : KeepsLink (State.giveEpoch src) := by
  intro s
  simp [State.giveEpoch, State.deliver_frame]

@[simp] theorem State.timerEpoch_link : KeepsLink State.timerEpoch := by
  intro s
  rw [State.timerEpoch, State.giveEpoch_link]

@[simp] theorem State.acceptPulse_link (line : EpochLine) : KeepsLink (State.acceptPulse line) := by
  intro s
  cases line with
  | a =>
    have hline := State.giveEpoch_link .lineA s
    by_cases hmode : s.epoch.mode = .syncA
    · rw [State.acceptPulse_of_syncA hmode, State.timerEpoch_link, hline]
    · rw [State.acceptPulse_of_not_syncA hmode, hline]
  | b => rw [State.acceptPulse, State.giveEpoch_link]

@[simp] theorem State.setLevel_link (line : EpochLine) (high : Bool) : KeepsLink (State.setLevel line high) := by
  intro s
  cases line <;> rfl

@[simp] theorem State.setQualifier_link (line : EpochLine) (q : QualifierState) : KeepsLink (State.setQualifier line q) := by
  intro s
  cases line <;> rfl

theorem State.lineRises_link (line : EpochLine) : KeepsLink (State.lineRises line) := by
  intro s
  unfold State.lineRises
  dsimp only
  (repeat' split) <;> simp

theorem State.lineFalls_link (line : EpochLine) : KeepsLink (State.lineFalls line) := by
  intro s
  unfold State.lineFalls State.acceptDue
  (repeat' split) <;> simp

theorem State.lineQualifies_link (line : EpochLine) : KeepsLink (State.lineQualifies line) := by
  intro s
  unfold State.lineQualifies
  split <;> simp

theorem State.periodEnds_link : KeepsLink State.periodEnds := by
  intro s
  unfold State.periodEnds
  split <;> simp [State.flywheelEpoch]

theorem State.idleRunsOut_link : KeepsLink State.idleRunsOut := by
  intro s
  unfold State.idleRunsOut
  split <;> simp

/-! ### The two ports -/

theorem State.requestUpdate_link (r : BusRequest) : KeepsLink (State.requestUpdate r) := by
  intro s
  unfold State.requestUpdate
  split <;> simp [State.takeUpdate_frame]

theorem State.requestCycle_link (r : BusRequest) : KeepsLink (State.requestCycle r) := by
  intro s
  unfold State.requestCycle
  split <;> simp [State.takeCycle_frame]

theorem State.settleWrite_link : KeepsLink State.settleWrite := by
  intro s
  unfold State.settleWrite State.reconsider
  (repeat' split) <;> simp [State.stageWrite_frame]

theorem State.holdRunsOut_link : KeepsLink State.holdRunsOut := by
  intro s
  unfold State.holdRunsOut
  split
  · unfold State.expireHold
    dsimp only
    split <;> simp [State.spoil_frame, State.ensureOpen_frame]
  · rfl

/-! ### The Commit Engine and the memory port -/

@[simp] theorem State.holdCycleRead_link (i : WIdx) : KeepsLink (State.holdCycleRead i) := by
  intro s
  simp [State.holdCycleRead_frame]

@[simp] theorem State.releaseCycleRead_link (i : WIdx) : KeepsLink (State.releaseCycleRead i) := by
  intro s
  simp [State.releaseCycleRead_frame]

@[simp] theorem State.faultCycleRead_link (i : WIdx) : KeepsLink (State.faultCycleRead i) := by
  intro s
  simp [State.faultCycleRead_frame]

theorem State.startCommit_link : KeepsLink State.startCommit := by
  intro s
  unfold State.startCommit
  (repeat' split) <;> simp [State.placeReadOld]

theorem State.completeCommit_link (h : BatchInHand) (b : WaitBatch) : KeepsLink (State.completeCommit h b) := by
  intro s
  unfold State.completeCommit
  dsimp only
  split <;> simp [State.countDone, State.leaveAtWork]

@[simp] theorem State.continueRollback_link : KeepsLink State.continueRollback := by
  intro s
  unfold State.continueRollback State.completeRollback
  (repeat' split) <;> simp [State.countAborted, State.leaveAtWork]

@[simp] theorem State.failRollback_link : KeepsLink State.failRollback := by
  intro s
  unfold State.failRollback
  (repeat' split) <;> simp [State.countAborted, State.leaveAtWork, State.halt]

@[simp] theorem State.writeNewDone_link (h : BatchInHand) (b : WaitBatch) (c : Cursor) :
    KeepsLink (State.writeNewDone h b c) := by
  intro s
  unfold State.writeNewDone
  dsimp only
  split
  · rfl
  · rw [State.completeCommit_link]

theorem State.endCommitAccess_link (o : AccessEnd) : KeepsLink (State.endCommitAccess o) := by
  intro s
  unfold State.endCommitAccess
  (repeat' split) <;> simp [State.readOldDone, State.failCommit, State.rollbackWriteDone]

theorem State.endUpdateAccess_link (o : AccessEnd) : KeepsLink (State.endUpdateAccess o) := by
  intro s
  unfold State.endUpdateAccess
  (repeat' split) <;> simp [State.recordFailure]

theorem State.endCycleAccess_link (o : AccessEnd) : KeepsLink (State.endCycleAccess o) := by
  intro s
  unfold State.endCycleAccess
  (repeat' split) <;> simp [State.recordFailure]

theorem State.endProbe_link (o : AccessEnd) : KeepsLink (State.endProbe o) := by
  intro s
  unfold State.endProbe
  (repeat' split) <;> simp

theorem State.endAccess_link (o : AccessEnd) : KeepsLink (State.endAccess o) := by
  intro s
  unfold State.endAccess
  split
  · rfl
  · split
    · exact State.endCycleAccess_link o _
    · exact State.endCommitAccess_link o _
    · exact State.endUpdateAccess_link o _
    · exact State.endProbe_link o _

theorem State.timeOut_link : KeepsLink State.timeOut := by
  intro s
  unfold State.timeOut
  split
  · exact (State.endAccess_link _ _).trans (State.elapse_link _ s)
  · rfl

theorem State.grantNext_link : KeepsLink State.grantNext := by
  intro s
  unfold State.grantNext State.seeGrant
  (repeat' split) <;> rfl

/-! ### The resets, and what is owed -/

theorem State.updateReset_link : KeepsLink State.updateReset := by
  intro s
  unfold State.updateReset
  split
  · rfl
  · rw [State.discardAll_link, State.abandonUpdate_eq]

theorem State.cycleReset_link : KeepsLink State.cycleReset := by
  intro s
  unfold State.cycleReset
  split
  · rfl
  · rw [State.abandonCycle_eq]

@[simp] theorem State.completeReset_link (waited : Bool) : KeepsLink (State.completeReset waited) := by
  intro s
  rw [State.completeReset_eq, State.reply_link]
  rfl

theorem State.settleWork_link : KeepsLink State.settleWork := by
  intro s
  rw [State.settleWork_eq]
  split
  · exact (State.completeReset_link true _).trans (State.settleWrite_link s)
  · exact State.settleWrite_link s

theorem State.settle_link : KeepsLink State.settle := by
  intro s
  simp [State.settle, State.takeWaiting, State.takeCycles_frame, State.takeUpdates_frame, State.settleWork_link s]

/-! ### The service commands -/

@[simp] theorem State.windowSet_link (a : WindowSetArgs) : KeepsLink (State.windowSet a) := by
  intro s
  unfold State.windowSet
  (repeat' split) <;> simp [State.install]

@[simp] theorem State.windowDrop_link (index : Byte) : KeepsLink (State.windowDrop index) := by
  intro s
  unfold State.windowDrop
  (repeat' split) <;> simp [State.freePlace]

@[simp] theorem State.windowRead_link (index : Byte) : KeepsLink (State.windowRead index) := by
  intro s
  unfold State.windowRead
  (repeat' split) <;> simp

@[simp] theorem State.clearRetry_link (index : Byte) : KeepsLink (State.clearRetry index) := by
  intro s
  unfold State.clearRetry
  (repeat' split) <;> simp [State.resume]

@[simp] theorem State.clearAbandon_link (index : Byte) : KeepsLink (State.clearAbandon index) := by
  intro s
  unfold State.clearAbandon
  (repeat' split) <;> simp [State.abandon]

theorem State.onActiveHeld_link (index : Byte) {act : WIdx → State → State} (h : ∀ i, KeepsLink (act i)) :
    KeepsLink (State.onActiveHeld index act) := by
  intro s
  unfold State.onActiveHeld
  (repeat' split) <;> simp [h _ s]

@[simp] theorem State.closeOpen_link (i : WIdx) : KeepsLink (State.closeOpen i) := by
  intro s
  unfold State.closeOpen
  (repeat' split) <;> simp

@[simp] theorem State.discardTargetOpen_link (i : WIdx) : KeepsLink (State.discardTargetOpen i) := by
  intro s
  unfold State.discardTargetOpen
  split <;> simp

@[simp] theorem State.discardTargetWaiting_link (i : WIdx) : KeepsLink (State.discardTargetWaiting i) := by
  intro s
  unfold State.discardTargetWaiting
  split <;> simp

@[simp] theorem State.discardTargetQueued_link (i : WIdx) : KeepsLink (State.discardTargetQueued i) := by
  intro s
  unfold State.discardTargetQueued
  (repeat' split) <;> simp

@[simp] theorem State.batchList_link (index : Byte) : KeepsLink (State.batchList index) := by
  intro s
  unfold State.batchList
  (repeat' split) <;> simp

@[simp] theorem State.undoRead_link (start : Byte) : KeepsLink (State.undoRead start) := by
  intro s
  unfold State.undoRead
  (repeat' split) <;> simp

@[simp] theorem State.replyGate_link : KeepsLink State.replyGate := fun s => State.reply_link _ _ s

@[simp] theorem State.setGate_link (g : Gate) : KeepsLink (State.setGate g) := fun _ => State.replyGate_link _

@[simp] theorem State.timerSet_link (mode : Option Byte) (period : Option Half) (qa qb : Option Byte) :
    KeepsLink (State.timerSet mode period qa qb) := by
  intro s
  unfold State.timerSet
  split <;> simp

@[simp] theorem State.limitsRead_link : KeepsLink State.limitsRead := fun s => State.reply_link _ _ s

@[simp] theorem State.limitsSet_link (hold : Option Half) (timeout watermark idle : Option Byte) :
    KeepsLink (State.limitsSet hold timeout watermark idle) := by
  intro s
  unfold State.limitsSet
  split
  · exact State.limitsRead_link _
  · exact State.refuse_link _ s

@[simp] theorem State.countersRead_link : KeepsLink State.countersRead := fun s => State.reply_link _ _ s

@[simp] theorem State.reportsTake_link : KeepsLink State.reportsTake := fun _ => State.reply_link _ _ _

@[simp] theorem State.memoryProbe_link (view : ProbeView) (addr : Word) : KeepsLink (State.memoryProbe view addr) := by
  intro s
  unfold State.memoryProbe State.probeStaged
  (repeat' split) <;> simp [State.placeProbe]

@[simp] theorem State.partResetBatches_link : KeepsLink State.partResetBatches := by
  intro s
  simp [State.partResetBatches]

@[simp] theorem State.partResetFull_link : KeepsLink State.partResetFull := by
  intro s
  rw [State.partResetFull_eq]
  split
  · exact State.completeReset_link false _
  · rfl

/-! ### Dispatch (R168) -/

theorem onEmpty_link {op : State → State} (hop : KeepsLink op) (p : List Byte) : KeepsLink (onEmpty op p) := by
  intro s
  unfold onEmpty
  split
  · exact hop s
  · exact State.refuse_link _ s

theorem onByte_link {op : Byte → State → State} (hop : ∀ b, KeepsLink (op b)) (p : List Byte) : KeepsLink (onByte op p) := by
  intro s
  unfold onByte
  split
  · exact hop _ s
  · exact State.refuse_link _ s

theorem onDescriptor_link (p : List Byte) : KeepsLink (onDescriptor p) := by
  intro s
  unfold onDescriptor
  split <;> simp

theorem onClear_link (p : List Byte) : KeepsLink (onClear p) := by
  intro s
  unfold onClear
  (repeat' split) <;> simp

theorem onDiscard_link (p : List Byte) : KeepsLink (onDiscard p) := by
  intro s
  unfold onDiscard
  (repeat' split)
  · exact State.onActiveHeld_link _ State.discardTargetOpen_link s
  · exact State.onActiveHeld_link _ State.discardTargetWaiting_link s
  · exact State.onActiveHeld_link _ State.discardTargetQueued_link s
  · exact State.refuse_link _ s
  · exact State.refuse_link _ s

theorem onGate_link (p : List Byte) : KeepsLink (onGate p) := by
  intro s
  unfold onGate
  (repeat' split) <;> simp

theorem onTimer_link (p : List Byte) : KeepsLink (onTimer p) := by
  intro s
  unfold onTimer
  split <;> simp

theorem onLimits_link (p : List Byte) : KeepsLink (onLimits p) := by
  intro s
  unfold onLimits
  (repeat' split) <;> simp

theorem onProbe_link (p : List Byte) : KeepsLink (onProbe p) := by
  intro s
  unfold onProbe
  (repeat' split) <;> simp

theorem onPartReset_link (p : List Byte) : KeepsLink (onPartReset p) := by
  intro s
  unfold onPartReset
  (repeat' split) <;> simp

/-- No row of the command table reaches the link transaction that brought it, whatever the payload. -/
theorem commandTable_link : ∀ row ∈ commandTable, ∀ p, KeepsLink (row.2 p) := by
  simp only [commandTable, List.forall_mem_cons]
  exact ⟨onEmpty_link (State.reply_link _ _), onDescriptor_link, onByte_link State.windowDrop_link,
    onByte_link State.windowRead_link, onClear_link, onByte_link fun i => State.onActiveHeld_link i State.closeOpen_link,
    onDiscard_link, onByte_link State.batchList_link, onByte_link State.undoRead_link, onGate_link, onTimer_link,
    onLimits_link, onEmpty_link State.limitsRead_link, onEmpty_link State.countersRead_link,
    onEmpty_link State.reportsTake_link, onProbe_link, onPartReset_link, nofun⟩

theorem dispatch_link (code : Byte) (p : List Byte) : KeepsLink (dispatch code p) := by
  unfold dispatch
  split
  · next row hrow => exact commandTable_link row (List.mem_of_find?_eq_some hrow) p
  · exact State.refuse_link _

/-! ### The decision of a frame (R159, R162) -/

section
variable {t : LinkTxn} {s : State}

/-- The frame of a transaction that waits for one is decided (R159). -/
theorem State.endFrame_of_kindPending (hl : s.svc.link = some t) (hp : t.phase = .kindPending) :
    s.endFrame = { s with svc := { s.svc with link := some ⟨t.status, .frameEnded⟩ } } := by
  simp only [State.endFrame, hl, hp]

/-- The frame of a transaction that has had one is decided already (R159). -/
theorem State.endFrame_of_decided (hl : s.svc.link = some t) (hp : t.phase ≠ .kindPending) : s.endFrame = s := by
  simp only [State.endFrame, hl]

/-- A request leaves its transaction with the frame decided. -/
theorem State.takeRequest_link {op : State → State} (hop : KeepsLink op) (tag code : Byte) (p : List Byte) (s : State) :
    (s.takeRequest tag code p op).svc.link = s.endFrame.svc.link := by
  unfold State.takeRequest
  dsimp only
  split
  · rw [hop]
  · rfl

theorem State.badFrame_link (tag : Byte) (s : State) : (s.badFrame tag).svc.link = s.endFrame.svc.link := by
  unfold State.badFrame
  dsimp only
  split <;> rfl

theorem State.decideFrame_link (f : RequestFrame) (s : State) : (s.decideFrame f).svc.link = s.endFrame.svc.link := by
  unfold State.decideFrame
  split
  · exact State.takeRequest_link (dispatch_link _ _) _ _ _ s
  · exact State.badFrame_link _ s

/-- A decided transaction has no frame kind to come. -/
theorem State.undecided_of_decided (hl : s.svc.link = some t) (hp : t.phase ≠ .kindPending) : s.undecided = none := by
  simp only [State.undecided, hl]

end

/-! ### Commands in a collect (R164) -/

section
variable {st : Byte} {frame : List Byte} {whole : Bool} {s u : State}

/-- An event whose effect leaves the link transaction, on the state with nothing owed. -/
theorem event_link {f : State → State} (hf : (f s.settle).svc.link = s.settle.svc.link) (hu : event f s = .next u) :
    u.svc.link = s.svc.link := by
  rw [event_next] at hu
  cases hu
  split
  · rfl
  · exact hf.trans (State.settle_link s)

/-- The same for a row of a line or of a port, which is an event while RESETN is deasserted. -/
theorem rowInReset_link {f g : State → State} (hresetn : s.pins.resetn = false) (hf : (f s.settle).svc.link = s.settle.svc.link)
    (hu : (if s.pins.resetn then .next (g s) else event f s) = .next u) : u.svc.link = s.svc.link := by
  rw [hresetn, if_neg Bool.false_ne_true] at hu
  exact event_link hf hu

/-- A collect in progress is reached by no row but SSN's rise and RESETN's fall (R164). -/
theorem exec_link_of_collecting (c : Instr) (hresetn : s.pins.resetn = false) (hssn : s.pins.ssn = true)
    (hl : s.svc.link = some ⟨st, .collecting frame whole⟩) (hrise : ∀ received bits, c ≠ .ssnRises received bits)
    (hfall : c ≠ .powerOnReset) (hu : exec c s = .next u) : u.svc.link = s.svc.link := by
  have hlink : s.settle.svc.link = some ⟨st, .collecting frame whole⟩ := (State.settle_link s).trans hl
  have hlow : s.settle.pins.ssn = true := by rw [(State.settle_frame s).1, hssn]
  have hframe : s.settle.endFrame = s.settle := State.endFrame_of_decided hlink nofun
  have hnone : s.settle.undecided = none := State.undecided_of_decided hlink nofun
  cases hreq : requestOf c with
  | some f =>
    obtain ⟨tag, code, p, -, -, hexec⟩ := sentAs_of_requestOf hreq
    rw [hexec] at hu
    refine event_link ((State.takeRequest_link (dispatch_link code p) tag code p _).trans ?_) hu
    rw [hframe]
  | none =>
    cases c with
    | powerOnReset => exact absurd rfl hfall
    | ssnRises received bits => exact absurd rfl (hrise received bits)
    | resetnDeasserted =>
      simp only [exec, execResetnDeasserted, hresetn, Bool.false_eq_true, if_false] at hu
      cases hu
      rfl
    | lateAnswer ans =>
      cases hu
      rfl
    | heldWriteReconsidered =>
      rw [exec_heldWriteReconsidered hresetn] at hu
      cases hu
      exact State.settleWrite_link s
    | fullResetComplete =>
      rw [exec_fullResetComplete hresetn] at hu
      cases hu
      exact State.settleWork_link s
    | urstnAsserted =>
      exact rowInReset_link (g := fun s => { s with pins := { s.pins with urstn := true } }) hresetn (State.updateReset_link _) hu
    | urstnDeasserted =>
      exact rowInReset_link (g := fun s => { s with pins := { s.pins with urstn := false } })
        (f := fun s => { s with pins := { s.pins with urstn := false } }) hresetn rfl hu
    | crstnAsserted =>
      exact rowInReset_link (g := fun s => { s with pins := { s.pins with crstn := true } }) hresetn (State.cycleReset_link _) hu
    | crstnDeasserted =>
      exact rowInReset_link (g := fun s => { s with pins := { s.pins with crstn := false } })
        (f := fun s => { s with pins := { s.pins with crstn := false } }) hresetn rfl hu
    | linkTransactionStart =>
      refine rowInReset_link (g := fun s => { s with pins := { s.pins with ssn := true } }) (f := State.ssnFalls) hresetn ?_ hu
      rw [State.ssnFalls, if_pos hlow]
    | updateTransactionTaken r =>
      exact rowInReset_link (g := State.presentUpdate r) hresetn (State.requestUpdate_link r _) hu
    | cycleTransactionTaken r =>
      exact rowInReset_link (g := State.presentCycle r) hresetn (State.requestCycle_link r _) hu
    | qualifyStart line =>
      exact rowInReset_link (g := fun s => s.lineInReset line true) hresetn (State.lineRises_link line _) hu
    | pulseDropped line =>
      exact rowInReset_link (g := fun s => s.lineInReset line false) hresetn (State.lineFalls_link line _) hu
    | writeHoldExpired => exact event_link (State.holdRunsOut_link _) hu
    | pulseAccepted line => exact event_link (State.lineQualifies_link line _) hu
    | periodEnd => exact event_link (State.periodEnds_link _) hu
    | commitStart => exact event_link (State.startCommit_link _) hu
    | grant => exact event_link (State.grantNext_link _) hu
    | memoryAnswer ans => exact event_link (State.endAccess_link _ _) hu
    | accessTimeout => exact event_link (State.timeOut_link _) hu
    | idleTimerRunOut => exact event_link (State.idleRunsOut_link _) hu
    | requestFrameDecided f => exact event_link (f := State.requestFrame f) (by simp only [State.requestFrame, hnone]) hu
    | requestDropped => exact event_link (f := State.dropOpenRequest) (by simp only [State.dropOpenRequest, hnone]) hu
    | collect => exact event_link (f := State.beginCollect) (by simp only [State.beginCollect, hnone]) hu
    | _ => cases hreq

end

end Sys2Proof.Machine
end

section
/-! SUPPORT. Link transactions (R158, R159, R162 to R165, R182): the fall of SSN and the bytes on SDO, a collect, and the rise of SSN. -/

namespace Sys2Proof.Machine

/-! ### The fall of SSN, and SDO (R158, R159, R182) -/

theorem exec_linkTransactionStart {s : State} (h : s.settled) :
    exec .linkTransactionStart s = .next s.ssnFalls.judgeAttn :=
  rowInReset_of_settled (g := fun t => { t with pins := { t.pins with ssn := true } }) h

/-- The bits of the link status byte do not overlap, so they add up (R182). -/
theorem Slot.statusBits_toNat (slot : Slot) (depth idle halted response : Bool) :
    (slot.statusBits ||| 0x20 ||| (if depth then 0x08 else 0x00) ||| (if idle then 0x04 else 0x00) |||
      (if halted then 0x02 else 0x00) ||| (if response then 0x01 else 0x00)).toNat =
    slot.statusBits.toNat + 32 + 8 * depth.toNat + 4 * idle.toNat + 2 * halted.toNat + response.toNat := by
  have hbits : slot.statusBits ∈ ([0x00, 0x40, 0x80] : List Byte) := by cases slot <;> simp [Slot.statusBits]
  have hsum : ∀ bits ∈ ([0x00, 0x40, 0x80] : List Byte), ∀ d i h r : Bool,
      (bits ||| 0x20 ||| (if d then 0x08 else 0x00) ||| (if i then 0x04 else 0x00) ||| (if h then 0x02 else 0x00) |||
        (if r then 0x01 else 0x00)).toNat = bits.toNat + 32 + 8 * d.toNat + 4 * i.toNat + 2 * h.toNat + r.toNat := by
    decide
  exact hsum _ hbits depth idle halted response

theorem State.reasonIdle_eq (s : State) : s.reasonIdle = (decide (s.rep.queue ≠ []) && s.rep.idleRunOut) := by
  cases hq : s.rep.queue <;> simp [State.reasonIdle, hq]

theorem State.sdoByte_of_link {s : State} {t : LinkTxn} (h : s.pins.resetn = false) (hl : s.svc.link = some t) (n : Nat) :
    s.sdoByte n = match n with
      | 0 => some t.status
      | k + 1 =>
        match t.phase with
        | .collecting frame _ => some (frame.getD k 0x00)
        | _ => some 0x00 := by
  cases n with
  | zero => simp only [State.sdoByte, h, hl, Bool.false_eq_true, if_false]
  | succ k => cases hp : t.phase <;> simp only [State.sdoByte, h, hl, hp, Bool.false_eq_true, if_false]

/-- Settles O40: the edge and the line that is low already, the status byte bit by bit, and SDO by the transaction's phase. -/
theorem linkTransactionStart : Obligations.LinkTransactionStart := by
  refine ⟨?_, ?_, ?_, ?_, ?_⟩
  · intro s h hssn
    rw [exec_linkTransactionStart h, State.ssnFalls, hssn, if_neg Bool.false_ne_true]
  · intro s h hssn
    rw [exec_linkTransactionStart h, State.ssnFalls, hssn, if_pos rfl]
  · intro s
    have hhalted : s.reasonHalted = decide (s.engine.state = .halted) := rfl
    rw [State.statusByte, Slot.statusBits_toNat, State.reasonIdle_eq, hhalted, State.reasonDepth]
    cases s.svc.slot <;> rfl
  · intro t k s h hl
    rw [State.sdoByte_of_link h hl, State.sdoByte_of_link h hl]
    cases t.phase <;> exact ⟨rfl, rfl⟩
  · rintro k s (h | h)
    · rw [State.sdoByte, if_pos h]
    · unfold State.sdoByte
      rw [h]
      split <;> rfl

/-! ### A collect (R164) -/

section
variable {t : LinkTxn} {s : State}

theorem State.beginCollect_of_kindPending (hl : s.svc.link = some t) (hp : t.phase = .kindPending) :
    s.beginCollect = { s with
      svc := { s.svc with link := some ⟨t.status, .collecting (collectFrame s.svc.slot) s.reasonResponse⟩ } } := by
  simp only [State.beginCollect, State.undecided_of_kindPending hl hp]

theorem exec_collect (h : s.settled) (hl : s.svc.link = some t) (hp : t.phase = .kindPending) :
    exec .collect s = .next (State.judgeAttn { s with
      svc := { s.svc with link := some ⟨t.status, .collecting (collectFrame s.svc.slot) s.reasonResponse⟩ } }) := by
  change event State.beginCollect s = _
  rw [event_of_settled _ _ h, State.beginCollect_of_kindPending hl hp]

end

/-- Settles O43: the response frame by the state of the slot, and the collect that no other row reaches. -/
theorem collectDecidesItsResponse : Obligations.CollectDecidesItsResponse := by
  refine ⟨?_, ?_, ?_, ?_, ?_⟩
  · intro t s h hl hp hslot
    rw [exec_collect h hl hp, State.reasonResponse, hslot]
    rfl
  · intro tag code payload t s h hl hp hslot
    rw [exec_collect h hl hp, State.reasonResponse, hslot]
    rfl
  · rintro tag r payload body t s h hl hp hslot rfl
    rw [exec_collect h hl hp, State.reasonResponse, hslot]
    rfl
  · intro slot
    cases slot <;> simp [collectFrame, frameBytes]
  · intro st frame whole k c s u h hssn hl hrise hfall hu
    exact ⟨exec_link_of_collecting c h hssn hl hrise hfall hu, State.sdoByte_of_link h hl (k + 1)⟩

/-! ### The rise of SSN (R158, R162, R165) -/

section
variable {received : List Byte} {bits : List Bool} {t : LinkTxn} {s : State}

theorem exec_ssnRises (h : s.settled) (hssn : s.pins.ssn = true) :
    exec (.ssnRises received bits) s = .next (((s.decideAtRise received).endCollect received).ssnHigh).judgeAttn := by
  have hrow := rowInReset_of_settled (f := State.ssnRise received) (g := State.ssnHigh) h
  rw [State.ssnRise, if_pos hssn] at hrow
  exact hrow

/-- A rise of SSN on a line that is high already is no edge (log 4). -/
theorem exec_ssnRises_high (h : s.settled) (hssn : s.pins.ssn = false) :
    exec (.ssnRises received bits) s = .next s.judgeAttn := by
  have hrow := rowInReset_of_settled (f := State.ssnRise received) (g := State.ssnHigh) h
  rw [State.ssnRise, hssn, if_neg Bool.false_ne_true] at hrow
  exact hrow

/-- A transaction whose frame is decided is not decided again at its end. -/
theorem State.decideAtRise_of_decided (h : s.undecided = none) (received : List Byte) : s.decideAtRise received = s := by
  simp only [State.decideAtRise, h]

/-- A whole READY response taken empties the slot (R165). -/
theorem State.endCollect_of_whole {st : Byte} {frame : List Byte} (hl : s.svc.link = some ⟨st, .collecting frame true⟩)
    (hlen : frame.length + 1 ≤ received.length) : s.endCollect received = { s with svc := { s.svc with slot := .idle } } := by
  simp only [State.endCollect, hl, hlen, if_true]

/-- A READY response that was not taken whole stays in the slot (R165). -/
theorem State.endCollect_of_short {st : Byte} {frame : List Byte} (hl : s.svc.link = some ⟨st, .collecting frame true⟩)
    (hlen : received.length < frame.length + 1) : s.endCollect received = s := by
  simp only [State.endCollect, hl, Nat.not_le.2 hlen, if_false]

/-- The end of a transaction that shifts out no READY response leaves the slot. -/
theorem State.endCollect_of_notReady (hl : s.svc.link = some t) (hready : t.phase.readyFrame = none) :
    s.endCollect received = s := by
  unfold State.endCollect
  rw [hl]
  dsimp only
  split
  · next hphase =>
    rw [hphase] at hready
    cases hready
  · rfl

end

/-- Settles O44: a collect is decided already, and only a READY response taken whole leaves the slot. -/
theorem collectEndsReady : Obligations.CollectEndsReady := by
  refine ⟨?_, ?_⟩
  · rintro st frame whole received bits s h hssn hl rfl hlen
    rw [exec_ssnRises h hssn, State.decideAtRise_of_decided (State.undecided_of_decided hl nofun),
      State.endCollect_of_whole hl hlen]
    rfl
  · intro st frame whole received bits s h hssn hl hshort
    have hkept : s.endCollect received = s := by
      cases whole with
      | false => exact State.endCollect_of_notReady hl rfl
      | true => exact State.endCollect_of_short hl (hshort.resolve_left Bool.noConfusion)
    rw [exec_ssnRises h hssn, State.decideAtRise_of_decided (State.undecided_of_decided hl nofun), hkept]
    rfl

end Sys2Proof.Machine
end

section
/-! SUPPORT. Bad, dropped and refused requests, and the frame that SSN's rise itself decides (R159, R162, R163, R168, R172; log 5,
log 15). -/

namespace Sys2Proof.Machine

/-! ### Bad and dropped frames (R162, R163) -/

section
variable {frame : List Byte} {f : RequestFrame} {t : LinkTxn} {s : State}

/-- A bad frame with the slot IDLE is answered, and no command runs (R162). -/
theorem State.badFrame_of_idle (tag : Byte) (h : s.svc.slot = .idle) :
    s.badFrame tag = { s with svc := { s.endFrame.svc with slot := .ready tag .badFrame [] } } := by
  have hslot : s.endFrame.svc.slot = .idle := s.endFrame_svc.1.trans h
  simp only [State.badFrame, hslot]
  rw [State.endFrame_frame]

theorem exec_requestFrameDecided_bad (h : s.takesCommands) (hl : s.svc.link = some t) (hp : t.phase = .kindPending)
    (hshow : showedIdle t.status = true) (hf : parseFrame frame = some f) (hbad : f.good = false) :
    exec (.requestFrameDecided frame) s = .next (State.answered f.tag .badFrame [] s) := by
  change event (State.requestFrame frame) s = _
  rw [event_of_settled _ _ h.1, State.requestFrame_of_showedIdle hl hp hshow hf, State.decideFrame, hbad,
    if_neg Bool.false_ne_true, State.badFrame_of_idle f.tag h.2]
  rfl

/-- The request of a transaction that waits for one is dropped and counted (R163). -/
theorem State.dropped_of_kindPending (hl : s.svc.link = some t) (hp : t.phase = .kindPending) :
    s.endFrame.dropRequest =
      { s with svc := { s.svc with dropped := satInc s.svc.dropped, link := some ⟨t.status, .frameEnded⟩ } } := by
  rw [State.endFrame_of_kindPending hl hp]
  rfl

theorem exec_requestFrameDecided_busy (h : s.settled) (hl : s.svc.link = some t) (hp : t.phase = .kindPending)
    (hshow : showedIdle t.status = false) (hf : parseFrame frame = some f) :
    exec (.requestFrameDecided frame) s = .next s.endFrame.dropRequest.judgeAttn := by
  change event (State.requestFrame frame) s = _
  rw [event_of_settled _ _ h, State.requestFrame_of_showedBusy hl hp hshow hf]

theorem exec_requestDropped (h : s.settled) (hl : s.svc.link = some t) (hp : t.phase = .kindPending)
    (hshow : showedIdle t.status = false) : exec .requestDropped s = .next s.endFrame.dropRequest.judgeAttn := by
  change event State.dropOpenRequest s = _
  rw [event_of_settled _ _ h]
  simp only [State.dropOpenRequest, State.undecided_of_kindPending hl hp, hshow, Bool.false_eq_true, if_false]

/-- Deciding a frame counts nothing itself, so the request dropped with it is the one counted. -/
theorem State.endFrame_dropRequest (s : State) :
    s.endFrame.dropRequest = { s with svc := { s.endFrame.svc with dropped := satInc s.svc.dropped } } := by
  rw [State.dropRequest, s.endFrame_svc.2.1, State.endFrame_frame]

/-- A service command's row that finds the slot busy is dropped and counted (R163; log 5). -/
theorem exec_service_busy {c : Instr} (h : s.settled) (hslot : s.svc.slot ≠ .idle) (hc : (requestOf c).isSome = true) :
    exec c s = .next s.endFrame.dropRequest.judgeAttn := by
  obtain ⟨frame, hframe⟩ := Option.isSome_iff_exists.1 hc
  obtain ⟨tag, code, payload, -, -, hexec⟩ := sentAs_of_requestOf hframe
  rw [hexec, event_of_settled _ _ h, State.takeRequest_busy _ _ _ _ _ hslot]

/-- Whatever is decided of a frame, its transaction has had it. -/
theorem State.requestFrame_link (hl : s.svc.link = some t) (hp : t.phase = .kindPending) (hf : parseFrame frame = some f) :
    (s.requestFrame frame).svc.link = some ⟨t.status, .frameEnded⟩ := by
  have hended : s.endFrame.svc.link = some ⟨t.status, .frameEnded⟩ := by rw [State.endFrame_of_kindPending hl hp]
  cases hshow : showedIdle t.status with
  | true => rw [State.requestFrame_of_showedIdle hl hp hshow hf, State.decideFrame_link, hended]
  | false => rw [State.requestFrame_of_showedBusy hl hp hshow hf, State.dropRequest_svc, hended]

end

/-! ### Payloads that a good frame is refused for (R168, R172) -/

section
variable {tag code b i k w d : Byte} {h : Half} {a : Word} {payload : List Byte} {t : LinkTxn} {s : State}

/-- An operand outside its codes is refused, whichever of the six commands carries it (R172, R184). -/
theorem dispatch_undefined (hbad : (code = 0x31 ∧ payload = [b] ∧ b ∉ ([0x00, 0x01, 0x02] : List Byte)) ∨
      (code = 0x13 ∧ payload = [i, b] ∧ b ∉ ([0x01, 0x02] : List Byte)) ∨
      (code = 0x21 ∧ payload = [i, b] ∧ b ∉ ([0x01, 0x02, 0x03] : List Byte)) ∨
      (code = 0x70 ∧ payload = be32 a ++ [b] ∧ b ∉ ([0x01, 0x02] : List Byte)) ∨
      (code = 0x7F ∧ payload = [b] ∧ b ∉ ([0x01, 0x02] : List Byte)) ∨
      (code = 0x50 ∧ payload = b :: be16 h ++ [k, w, d] ∧ 16 ≤ b.toNat)) :
    payload.length ≤ 60 ∧ dispatch code payload = State.refuse .badArgument := by
  rcases hbad with ⟨rfl, rfl, hb⟩ | ⟨rfl, rfl, hb⟩ | ⟨rfl, rfl, hb⟩ | ⟨rfl, rfl, hb⟩ | ⟨rfl, rfl, hb⟩ | ⟨rfl, rfl, hb⟩
  · exact ⟨Nat.le_of_ble_eq_true rfl, onGate_undefined hb⟩
  · exact ⟨Nat.le_of_ble_eq_true rfl, onClear_undefined hb i⟩
  · exact ⟨Nat.le_of_ble_eq_true rfl, onDiscard_undefined hb i⟩
  · exact ⟨Nat.le_of_ble_eq_true rfl, onProbe_undefined hb a⟩
  · exact ⟨Nat.le_of_ble_eq_true rfl, onPartReset_undefined hb⟩
  · exact ⟨Nat.le_of_ble_eq_true rfl, onLimits_undefined hb _ _ k w d⟩

/-- A LIMITS_SET with no limit present writes none, and answers the four as they stand (R172). -/
theorem dispatch_limitsSet_empty (k w d : Byte) (h : Half) (s : State) :
    dispatch 0x50 (0x00 :: be16 h ++ [k, w, d]) s = s.reply .ok (limitsPayload s) := rfl

end

/-! ### The frame that the rise of SSN decides (R159, R162; log 15) -/

section
variable {received rest : List Byte} {f : RequestFrame} {t : LinkTxn} {s : State}

theorem State.decideAtRise_of_nothing (s : State) : s.decideAtRise [] = s := by
  unfold State.decideAtRise
  split
  · next h => cases h
  · rfl

theorem State.decideAtRise_of_unknown {kind : Byte} (h1 : kind ≠ 0xC1) (h2 : kind ≠ 0xC2) (rest : List Byte) (s : State) :
    s.decideAtRise (kind :: rest) = s := by
  cases hu : s.undecided with
  | none => exact State.decideAtRise_of_decided hu _
  | some t => simp only [State.decideAtRise, hu, h1, h2, if_false]

theorem State.decideAtRise_of_collect (hl : s.svc.link = some t) (hp : t.phase = .kindPending) (rest : List Byte) :
    s.decideAtRise (0xC2 :: rest) = s.beginCollect := by
  simp only [State.decideAtRise, State.undecided_of_kindPending hl hp, if_true]

theorem State.decideAtRise_of_showedBusy (hl : s.svc.link = some t) (hp : t.phase = .kindPending)
    (hshow : showedIdle t.status = false) (rest : List Byte) : s.decideAtRise (0xC1 :: rest) = s.endFrame.dropRequest := by
  have hkind : (0xC1 : Byte) ≠ 0xC2 := by decide
  simp only [State.decideAtRise, State.undecided_of_kindPending hl hp, hkind, hshow, Bool.false_eq_true, if_false, if_true]

/-- A request cut short is a bad frame, with tag 0 if its tag had not come (R162). -/
theorem State.decideAtRise_of_cutShort (hl : s.svc.link = some t) (hp : t.phase = .kindPending)
    (hshow : showedIdle t.status = true) (hf : parseFrame (0xC1 :: rest) = none) :
    s.decideAtRise (0xC1 :: rest) = s.badFrame (rest.headD 0) := by
  have hkind : (0xC1 : Byte) ≠ 0xC2 := by decide
  simp only [State.decideAtRise, State.undecided_of_kindPending hl hp, hkind, hshow, hf, if_false, if_true]

/-- A complete request frame is decided at the rise as it would have been before it. -/
theorem State.decideAtRise_of_complete (hl : s.svc.link = some t) (hp : t.phase = .kindPending)
    (hf : parseFrame received = some f) : s.decideAtRise received = s.requestFrame received := by
  obtain ⟨rest, rfl⟩ := parseFrame_eq_some hf
  have hkind : (0xC1 : Byte) ≠ 0xC2 := by decide
  cases hshow : showedIdle t.status with
  | true =>
    rw [State.requestFrame_of_showedIdle hl hp hshow hf]
    simp only [State.decideAtRise, State.undecided_of_kindPending hl hp, hkind, hshow, hf, if_false, if_true]
  | false => rw [State.requestFrame_of_showedBusy hl hp hshow hf, State.decideAtRise_of_showedBusy hl hp hshow]

/-- ATTN as it stands does not matter to the end of a collect after which it is judged. -/
theorem State.endCollect_judgeAttn (received : List Byte) (s : State) :
    (s.judgeAttn.endCollect received).ssnHigh.judgeAttn = (s.endCollect received).ssnHigh.judgeAttn := by
  unfold State.endCollect
  rw [State.judgeAttn_svc]
  (repeat' split) <;> rfl

/-- A collect decided at the rise ends as one decided just before it (log 15). -/
theorem exec_ssnRises_collect {bits : List Bool} {u : State} (h : s.settled) (hssn : s.pins.ssn = true)
    (hl : s.svc.link = some t) (hp : t.phase = .kindPending) (hu : exec .collect s = .next u) :
    exec (.ssnRises (0xC2 :: rest) bits) s = exec (.ssnRises (0xC2 :: rest) bits) u := by
  rw [exec_collect h hl hp] at hu
  cases hu
  rw [exec_ssnRises h hssn, exec_ssnRises (by exact h) (by exact hssn), State.decideAtRise_of_collect hl hp,
    State.beginCollect_of_kindPending hl hp, State.decideAtRise_of_decided (by rfl), State.endCollect_judgeAttn]

end

/-- Settles O42: each way a request can go wrong by what is decided of its frame, and SSN's rise by what it decides. -/
theorem badAndDroppedRequests : Obligations.BadAndDroppedRequests := by
  refine ⟨?_, ?_, ?_, ?_, ?_, ?_, ?_, ?_, ?_, ?_, ?_, ?_, ?_, ?_⟩
  · exact fun frame f t s h hl hp hshow hf hbad => exec_requestFrameDecided_bad h hl hp hshow hf hbad
  · intro received bits t s h hssn hl hp hshow hf
    have hbad : s.badFrame (received.headD 0) = { s with
        svc := { s.svc with slot := .ready (received.headD 0) .badFrame [], link := some ⟨t.status, .frameEnded⟩ } } := by
      rw [State.badFrame_of_idle _ h.2, State.endFrame_of_kindPending hl hp]
    rw [exec_ssnRises h.1 hssn, State.decideAtRise_of_cutShort hl hp hshow hf, hbad,
      State.endCollect_of_notReady (t := ⟨t.status, .frameEnded⟩) rfl rfl]
    rfl
  · intro frame f t s h hl hp hshow hf
    rw [exec_requestFrameDecided_busy h hl hp hshow hf, State.dropped_of_kindPending hl hp]
  · intro t s h hl hp hshow
    rw [exec_requestDropped h hl hp hshow, State.dropped_of_kindPending hl hp]
  · intro c s h hslot hc
    rw [exec_service_busy h hslot hc, State.endFrame_dropRequest]
  · exact fun received bits s h hssn => exec_ssnRises_high h hssn
  · intro tag code payload t s h hl hp hshow hlen hcode
    exact exec_requestFrameDecided_refused h hl hp hshow hlen (dispatch_of_unknown hcode payload)
  · intro tag code len payload t s h hl hp hshow hlen hrow hne
    exact exec_requestFrameDecided_refused h hl hp hshow hlen (dispatch_of_length hrow hne)
  · intro tag code b i k w d x a payload t s h hl hp hshow hbad
    obtain ⟨hlen, hd⟩ := dispatch_undefined hbad
    exact exec_requestFrameDecided_refused h hl hp hshow hlen hd
  · intro tag k w d x t s h hl hp hshow
    rw [exec_requestFrameDecided_good h hl hp hshow (Nat.le_of_ble_eq_true rfl)]
    exact event_takeRequest_only_answered h (dispatch_limitsSet_empty k w d x _)
  · intro kind rest received bits t s h hssn hl hp hkind
    have hnone : s.decideAtRise received = s := by
      rcases hkind with rfl | ⟨rfl, h1, h2⟩
      · exact s.decideAtRise_of_nothing
      · exact State.decideAtRise_of_unknown h1 h2 rest s
    rw [exec_ssnRises h hssn, hnone, State.endCollect_of_notReady hl (by rw [hp]; rfl)]
    rfl
  · intro rest bits t s h hssn hl hp hshow
    rw [exec_ssnRises h hssn, State.decideAtRise_of_showedBusy hl hp hshow, State.dropped_of_kindPending hl hp,
      State.endCollect_of_notReady (t := ⟨t.status, .frameEnded⟩) rfl rfl]
    rfl
  · intro received bits f t s u h hssn hl hp hf hu
    have hdecided : exec (.requestFrameDecided received) s = .next (s.requestFrame received).judgeAttn :=
      event_of_settled _ _ h
    rw [hdecided] at hu
    cases hu
    rw [exec_ssnRises h hssn, State.decideAtRise_of_complete hl hp hf,
      State.endCollect_of_notReady (State.requestFrame_link hl hp hf) rfl]
    rfl
  · exact fun rest bits t s u h hssn hl hp hu => exec_ssnRises_collect h hssn hl hp hu

end Sys2Proof.Machine
end

section
/-! SUPPORT. The outcome of a command, and the queue of commands over one (log 1, log 14). No operation reaches the queue
(`KeepsPending`), and each row answers a next state, so that a command leaves the queue as it finds it. -/

namespace Sys2Proof.Machine

/-- An operation that leaves the queue of commands. -/
abbrev KeepsPending (f : State → State) : Prop := ∀ s : State, (f s).pending = s.pending

/-! ### Answers, batches and the command slot -/

@[simp] theorem State.reply_pending (r : Result) (q : List Byte) : KeepsPending (State.reply r q) := by
  intro s
  simp [State.reply_frame]

@[simp] theorem State.refuse_pending (r : Result) : KeepsPending (State.refuse r) := State.reply_pending r []

@[simp] theorem State.faultHeldOf_pending (i : WIdx) : KeepsPending (State.faultHeldOf i) := by
  intro s
  simp [State.faultHeldOf_frame]

@[simp] theorem State.discardOpen_pending (i : WIdx) (cause : DiscardCause) : KeepsPending (State.discardOpen i cause) := by
  intro s
  simp [State.discardOpen_frame]

@[simp] theorem State.discardClosed_pending (i : WIdx) (cause : DiscardCause) : KeepsPending (State.discardClosed i cause) := by
  intro s
  rw [State.discardClosed, State.foldl_record (fun b : WaitBatch => .batchDiscarded i b.id cause)]
  rfl

@[simp] theorem State.discardQueued_pending (i : WIdx) (cause : DiscardCause) : KeepsPending (State.discardQueued i cause) := by
  intro s
  simp [State.discardQueued_frame]

@[simp] theorem State.discardAll_pending (scope : ResetScope) : KeepsPending (State.discardAll scope) := by
  intro s
  rw [State.discardAll_eq]

@[simp] theorem State.queueImmediate_pending (i : WIdx) : KeepsPending (State.queueImmediate i) := by
  intro s
  simp [State.queueImmediate_frame]

@[simp] theorem State.endFrame_pending : KeepsPending State.endFrame := by
  intro s
  rw [State.endFrame_frame]

/-! ### Time, epochs and the lines -/

@[simp] theorem State.elapse_pending (n : Nat) : KeepsPending (State.elapse n) := by
  intro s
  unfold State.elapse
  split <;> rfl

@[simp] theorem State.giveEpoch_pending (src : EpochSource) : KeepsPending (State.giveEpoch src) := by
  intro s
  simp [State.giveEpoch, State.deliver_frame]

@[simp] theorem State.timerEpoch_pending : KeepsPending State.timerEpoch := fun _ => State.giveEpoch_pending .timer _

@[simp] theorem State.acceptPulse_pending (line : EpochLine) : KeepsPending (State.acceptPulse line) := by
  intro s
  cases line with
  | a =>
    simp only [State.acceptPulse]
    split <;> simp
  | b => exact State.giveEpoch_pending .lineB s

@[simp] theorem State.setLevel_pending (line : EpochLine) (high : Bool) : KeepsPending (State.setLevel line high) := by
  intro s
  cases line <;> rfl

@[simp] theorem State.setQualifier_pending (line : EpochLine) (q : QualifierState) :
    KeepsPending (State.setQualifier line q) := by
  intro s
  cases line <;> rfl

theorem State.lineInReset_pending (line : EpochLine) (high : Bool) : KeepsPending (State.lineInReset line high) := by
  intro s
  simp [State.lineInReset]

theorem State.lineRises_pending (line : EpochLine) : KeepsPending (State.lineRises line) := by
  intro s
  unfold State.lineRises
  dsimp only
  (repeat' split) <;> simp

theorem State.lineFalls_pending (line : EpochLine) : KeepsPending (State.lineFalls line) := by
  intro s
  unfold State.lineFalls State.acceptDue
  (repeat' split) <;> simp

theorem State.lineQualifies_pending (line : EpochLine) : KeepsPending (State.lineQualifies line) := by
  intro s
  unfold State.lineQualifies
  split <;> simp

theorem State.periodEnds_pending : KeepsPending State.periodEnds := by
  intro s
  unfold State.periodEnds
  split <;> simp [State.flywheelEpoch]

theorem State.idleRunsOut_pending : KeepsPending State.idleRunsOut := by
  intro s
  unfold State.idleRunsOut
  split <;> simp

/-! ### The two ports -/

theorem State.requestUpdate_pending (r : BusRequest) : KeepsPending (State.requestUpdate r) := by
  intro s
  unfold State.requestUpdate
  split <;> simp [State.takeUpdate_frame]

theorem State.requestCycle_pending (r : BusRequest) : KeepsPending (State.requestCycle r) := by
  intro s
  unfold State.requestCycle
  split <;> simp [State.takeCycle_frame]

theorem State.settleWrite_pending : KeepsPending State.settleWrite := by
  intro s
  unfold State.settleWrite State.reconsider
  (repeat' split) <;> simp [State.stageWrite_frame]

/-- A hold that runs out spoils a batch, after the time that it still lacks (R35). -/
theorem State.holdRunsOut_pending : KeepsPending State.holdRunsOut := by
  intro s
  unfold State.holdRunsOut
  split
  · unfold State.expireHold
    dsimp only
    split <;> simp [State.spoil_frame, State.ensureOpen_frame]
  · rfl

/-! ### The Commit Engine and the memory port -/

@[simp] theorem State.holdCycleRead_pending (i : WIdx) : KeepsPending (State.holdCycleRead i) := by
  intro s
  simp [State.holdCycleRead_frame]

@[simp] theorem State.releaseCycleRead_pending (i : WIdx) : KeepsPending (State.releaseCycleRead i) := by
  intro s
  simp [State.releaseCycleRead_frame]

theorem State.startCommit_pending : KeepsPending State.startCommit := by
  intro s
  unfold State.startCommit
  (repeat' split) <;> simp [State.placeReadOld]

theorem State.completeCommit_pending (h : BatchInHand) (b : WaitBatch) : KeepsPending (State.completeCommit h b) := by
  intro s
  unfold State.completeCommit
  dsimp only
  split <;> simp [State.countDone, State.leaveAtWork]

@[simp] theorem State.writeNewDone_pending (h : BatchInHand) (b : WaitBatch) (c : Cursor) :
    KeepsPending (State.writeNewDone h b c) := by
  intro s
  unfold State.writeNewDone
  dsimp only
  split
  · rfl
  · exact State.completeCommit_pending _ b _

@[simp] theorem State.continueRollback_pending : KeepsPending State.continueRollback := by
  intro s
  unfold State.continueRollback State.completeRollback
  (repeat' split) <;> simp [State.countAborted, State.leaveAtWork]

@[simp] theorem State.failRollback_pending : KeepsPending State.failRollback := by
  intro s
  unfold State.failRollback
  (repeat' split) <;> simp [State.countAborted, State.leaveAtWork, State.halt, State.faultCycleRead_frame]

theorem State.endCommitAccess_pending (o : AccessEnd) : KeepsPending (State.endCommitAccess o) := by
  intro s
  unfold State.endCommitAccess
  (repeat' split) <;> simp [State.readOldDone, State.failCommit, State.rollbackWriteDone]

theorem State.endUpdateAccess_pending (o : AccessEnd) : KeepsPending (State.endUpdateAccess o) := by
  intro s
  unfold State.endUpdateAccess
  (repeat' split) <;> simp [State.recordFailure]

theorem State.endCycleAccess_pending (o : AccessEnd) : KeepsPending (State.endCycleAccess o) := by
  intro s
  unfold State.endCycleAccess
  (repeat' split) <;> simp [State.recordFailure]

theorem State.endProbe_pending (o : AccessEnd) : KeepsPending (State.endProbe o) := by
  intro s
  unfold State.endProbe
  (repeat' split) <;> simp

/-- The end of an access is that of its requester, with the port FREE (R136). -/
theorem State.endAccess_pending (o : AccessEnd) : KeepsPending (State.endAccess o) := by
  intro s
  unfold State.endAccess
  split
  · rfl
  · split
    · exact State.endCycleAccess_pending o _
    · exact State.endCommitAccess_pending o _
    · exact State.endUpdateAccess_pending o _
    · exact State.endProbe_pending o _

theorem State.timeOut_pending : KeepsPending State.timeOut := by
  intro s
  unfold State.timeOut
  split
  · exact (State.endAccess_pending _ _).trans (State.elapse_pending _ s)
  · rfl

theorem State.grantNext_pending : KeepsPending State.grantNext := by
  intro s
  unfold State.grantNext State.seeGrant
  (repeat' split) <;> rfl

/-! ### The resets -/

theorem State.updateReset_pending : KeepsPending State.updateReset := by
  intro s
  unfold State.updateReset
  split
  · rfl
  · rw [State.discardAll_pending, State.abandonUpdate_eq]

theorem State.cycleReset_pending : KeepsPending State.cycleReset := by
  intro s
  unfold State.cycleReset
  split
  · rfl
  · rw [State.abandonCycle_eq]

theorem State.completeReset_pending (waited : Bool) : KeepsPending (State.completeReset waited) := by
  intro s
  rw [State.completeReset_eq, State.reply_pending]
  rfl

theorem State.partResetBatches_pending : KeepsPending State.partResetBatches := by
  intro s
  simp [State.partResetBatches, State.faultHeld_frame]

theorem State.partResetFull_pending : KeepsPending State.partResetFull := by
  intro s
  rw [State.partResetFull_eq]
  split
  · exact State.completeReset_pending false _
  · rfl

/-! ### The service commands -/

@[simp] theorem State.windowSet_pending (a : WindowSetArgs) : KeepsPending (State.windowSet a) := by
  intro s
  unfold State.windowSet
  (repeat' split) <;> simp [State.install]

theorem State.windowDrop_pending (index : Byte) : KeepsPending (State.windowDrop index) := by
  intro s
  unfold State.windowDrop
  (repeat' split) <;> simp [State.freePlace]

theorem State.windowRead_pending (index : Byte) : KeepsPending (State.windowRead index) := by
  intro s
  unfold State.windowRead
  (repeat' split) <;> simp

@[simp] theorem State.clearRetry_pending (index : Byte) : KeepsPending (State.clearRetry index) := by
  intro s
  unfold State.clearRetry
  (repeat' split) <;> simp [State.resume]

@[simp] theorem State.clearAbandon_pending (index : Byte) : KeepsPending (State.clearAbandon index) := by
  intro s
  unfold State.clearAbandon
  (repeat' split) <;> simp [State.abandon]

/-- A batch command that passes its four checks is its act on the window, and a refusal otherwise (R36, R37). -/
theorem State.onActiveHeld_pending (index : Byte) {act : WIdx → State → State} (h : ∀ i, KeepsPending (act i)) :
    KeepsPending (State.onActiveHeld index act) := by
  intro s
  unfold State.onActiveHeld
  (repeat' split) <;> simp [h _ s]

theorem State.closeOpen_pending (i : WIdx) : KeepsPending (State.closeOpen i) := by
  intro s
  unfold State.closeOpen
  (repeat' split) <;> simp [State.closeBatch_frame]

theorem State.discardTargetOpen_pending (i : WIdx) : KeepsPending (State.discardTargetOpen i) := by
  intro s
  unfold State.discardTargetOpen
  split <;> simp

theorem State.discardTargetWaiting_pending (i : WIdx) : KeepsPending (State.discardTargetWaiting i) := by
  intro s
  unfold State.discardTargetWaiting
  split <;> simp

theorem State.discardTargetQueued_pending (i : WIdx) : KeepsPending (State.discardTargetQueued i) := by
  intro s
  unfold State.discardTargetQueued
  (repeat' split) <;> simp

theorem State.batchList_pending (index : Byte) : KeepsPending (State.batchList index) := by
  intro s
  unfold State.batchList
  (repeat' split) <;> simp

theorem State.undoRead_pending (start : Byte) : KeepsPending (State.undoRead start) := by
  intro s
  unfold State.undoRead
  (repeat' split) <;> simp

theorem State.replyGate_pending : KeepsPending State.replyGate := fun s => State.reply_pending _ _ s

theorem State.setGate_pending (g : Gate) : KeepsPending (State.setGate g) := fun _ => State.replyGate_pending _

@[simp] theorem State.timerSet_pending (mode : Option Byte) (period : Option Half) (qa qb : Option Byte) :
    KeepsPending (State.timerSet mode period qa qb) := by
  intro s
  unfold State.timerSet
  split <;> simp

theorem State.limitsRead_pending : KeepsPending State.limitsRead := fun s => State.reply_pending _ _ s

@[simp] theorem State.limitsSet_pending (hold : Option Half) (timeout watermark idle : Option Byte) :
    KeepsPending (State.limitsSet hold timeout watermark idle) := by
  intro s
  unfold State.limitsSet
  split
  · exact State.limitsRead_pending _
  · exact State.refuse_pending _ s

theorem State.countersRead_pending : KeepsPending State.countersRead := fun s => State.reply_pending _ _ s

theorem State.reportsTake_pending : KeepsPending State.reportsTake := fun _ => State.reply_pending _ _ _

@[simp] theorem State.memoryProbe_pending (view : ProbeView) (addr : Word) : KeepsPending (State.memoryProbe view addr) := by
  intro s
  unfold State.memoryProbe State.probeStaged
  (repeat' split) <;> simp [State.placeProbe]

/-! ### Dispatch (R168) -/

theorem onEmpty_pending {op : State → State} (hop : KeepsPending op) (p : List Byte) : KeepsPending (onEmpty op p) := by
  intro s
  unfold onEmpty
  split
  · exact hop s
  · exact State.refuse_pending _ s

theorem onByte_pending {op : Byte → State → State} (hop : ∀ b, KeepsPending (op b)) (p : List Byte) :
    KeepsPending (onByte op p) := by
  intro s
  unfold onByte
  split
  · exact hop _ s
  · exact State.refuse_pending _ s

theorem onDescriptor_pending (p : List Byte) : KeepsPending (onDescriptor p) := by
  intro s
  unfold onDescriptor
  split <;> simp

theorem onClear_pending (p : List Byte) : KeepsPending (onClear p) := by
  intro s
  unfold onClear
  (repeat' split) <;> simp

theorem onDiscard_pending (p : List Byte) : KeepsPending (onDiscard p) := by
  intro s
  unfold onDiscard
  (repeat' split)
  · exact State.onActiveHeld_pending _ State.discardTargetOpen_pending s
  · exact State.onActiveHeld_pending _ State.discardTargetWaiting_pending s
  · exact State.onActiveHeld_pending _ State.discardTargetQueued_pending s
  · exact State.refuse_pending _ s
  · exact State.refuse_pending _ s

theorem onGate_pending (p : List Byte) : KeepsPending (onGate p) := by
  intro s
  unfold onGate
  (repeat' split) <;> simp [State.replyGate_pending s, State.setGate_pending _ s]

theorem onTimer_pending (p : List Byte) : KeepsPending (onTimer p) := by
  intro s
  unfold onTimer
  split <;> simp

theorem onLimits_pending (p : List Byte) : KeepsPending (onLimits p) := by
  intro s
  unfold onLimits
  (repeat' split) <;> simp

theorem onProbe_pending (p : List Byte) : KeepsPending (onProbe p) := by
  intro s
  unfold onProbe
  (repeat' split) <;> simp

theorem onPartReset_pending (p : List Byte) : KeepsPending (onPartReset p) := by
  intro s
  unfold onPartReset
  (repeat' split) <;> simp [State.partResetBatches_pending s, State.partResetFull_pending s]

/-- No row of the command table reaches the queue, whatever the payload. -/
theorem commandTable_pending : ∀ row ∈ commandTable, ∀ p, KeepsPending (row.2 p) := by
  simp only [commandTable, List.forall_mem_cons]
  exact ⟨onEmpty_pending (State.reply_pending _ _), onDescriptor_pending, onByte_pending State.windowDrop_pending,
    onByte_pending State.windowRead_pending, onClear_pending,
    onByte_pending fun i => State.onActiveHeld_pending i State.closeOpen_pending, onDiscard_pending,
    onByte_pending State.batchList_pending, onByte_pending State.undoRead_pending, onGate_pending, onTimer_pending,
    onLimits_pending, onEmpty_pending State.limitsRead_pending, onEmpty_pending State.countersRead_pending,
    onEmpty_pending State.reportsTake_pending, onProbe_pending, onPartReset_pending, nofun⟩

theorem dispatch_pending (code : Byte) (p : List Byte) : KeepsPending (dispatch code p) := by
  unfold dispatch
  split
  · next row hrow => exact commandTable_pending row (List.mem_of_find?_eq_some hrow) p
  · exact State.refuse_pending _

/-! ### The service link (R158 to R165) -/

theorem State.takeRequest_pending (tag code : Byte) (p : List Byte) :
    KeepsPending (State.takeRequest tag code p (dispatch code p)) := by
  intro s
  unfold State.takeRequest
  dsimp only
  split <;> simp [dispatch_pending code p _]

@[simp] theorem State.badFrame_pending (tag : Byte) : KeepsPending (State.badFrame tag) := by
  intro s
  unfold State.badFrame
  dsimp only
  split <;> simp

@[simp] theorem State.decideFrame_pending (f : RequestFrame) : KeepsPending (State.decideFrame f) := by
  intro s
  unfold State.decideFrame
  split
  · exact State.takeRequest_pending _ _ _ s
  · exact State.badFrame_pending _ s

theorem State.requestFrame_pending (frame : List Byte) : KeepsPending (State.requestFrame frame) := by
  intro s
  unfold State.requestFrame
  (repeat' split) <;> simp

theorem State.dropOpenRequest_pending : KeepsPending State.dropOpenRequest := by
  intro s
  unfold State.dropOpenRequest
  (repeat' split) <;> simp

@[simp] theorem State.beginCollect_pending : KeepsPending State.beginCollect := by
  intro s
  unfold State.beginCollect
  split <;> rfl

theorem State.decideAtRise_pending (received : List Byte) : KeepsPending (State.decideAtRise received) := by
  intro s
  unfold State.decideAtRise
  (repeat' split) <;> simp

theorem State.endCollect_pending (received : List Byte) : KeepsPending (State.endCollect received) := by
  intro s
  unfold State.endCollect
  (repeat' split) <;> rfl

theorem State.ssnRise_pending (received : List Byte) : KeepsPending (State.ssnRise received) := by
  intro s
  unfold State.ssnRise
  split
  · exact (State.endCollect_pending received _).trans (State.decideAtRise_pending received s)
  · rfl

theorem State.ssnFalls_pending : KeepsPending State.ssnFalls := by
  intro s
  unfold State.ssnFalls
  split <;> rfl

/-! ### Every command -/

/-- A row that answers a next state, with the queue of commands as it was. -/
abbrev AnswersNext (row : State → Host.Outcome State Fault Refusal) : Prop :=
  ∀ s : State, ∃ t, row s = .next t ∧ t.pending = s.pending

/-- An event answers next, and neither what is owed before it nor ATTN after it reaches the queue (log 1). -/
theorem event_answersNext {f : State → State} (hf : KeepsPending f) : AnswersNext (event f) := by
  intro s
  refine ⟨_, event_next f s, ?_⟩
  split
  · rfl
  · exact (hf s.settle).trans (State.settle_frame s).2

/-- A row that is one thing while RESETN is asserted and an event otherwise. -/
theorem rowInReset_answersNext {f g : State → State} (hg : KeepsPending g) (hf : KeepsPending f) :
    AnswersNext fun s => if s.pins.resetn then .next (g s) else event f s := by
  intro s
  dsimp only
  split
  · exact ⟨_, rfl, hg s⟩
  · exact event_answersNext hf s

/-- A row that chooses by RESETN between two operations, without the frame of an event. -/
theorem byReset_answersNext {f g : State → State} (hg : KeepsPending g) (hf : KeepsPending f) :
    AnswersNext fun s => if s.pins.resetn then .next (g s) else .next (f s) := by
  intro s
  dsimp only
  split
  · exact ⟨_, rfl, hg s⟩
  · exact ⟨_, rfl, hf s⟩

/-- A change of the line levels alone. -/
theorem State.setPins_pending (p : Pins → Pins) : KeepsPending fun s => { s with pins := p s.pins } := fun _ => rfl

/-- A service command is a request of its own code and payload, dispatched. -/
theorem exec_answersNext_of_request {c : Instr} {frame : List Byte} (h : requestOf c = some frame) : AnswersNext (exec c) := by
  obtain ⟨tag, code, payload, -, -, hexec⟩ := sentAs_of_requestOf h
  rw [hexec]
  exact event_answersNext (State.takeRequest_pending tag code payload)

theorem exec_answersNext (c : Instr) : AnswersNext (exec c) := by
  cases hreq : requestOf c with
  | some frame => exact exec_answersNext_of_request hreq
  | none =>
    cases c with
    | powerOnReset => exact fun _ => ⟨_, rfl, rfl⟩
    | lateAnswer ans => exact fun _ => ⟨_, rfl, rfl⟩
    | resetnDeasserted => exact byReset_answersNext (g := fun s => s.leaveReset.judgeAttn) (f := id) (fun _ => rfl) fun _ => rfl
    | heldWriteReconsidered =>
      exact byReset_answersNext (g := id) (f := fun s => s.settleWrite.judgeAttn) (fun _ => rfl) State.settleWrite_pending
    | fullResetComplete =>
      exact byReset_answersNext (g := id) (f := fun s => s.settleWork.judgeAttn) (fun _ => rfl)
        fun s => (State.settleWork_frame s).2
    | urstnAsserted =>
      exact rowInReset_answersNext (State.setPins_pending fun p => { p with urstn := true }) State.updateReset_pending
    | urstnDeasserted =>
      exact rowInReset_answersNext (State.setPins_pending fun p => { p with urstn := false })
        (State.setPins_pending fun p => { p with urstn := false })
    | crstnAsserted =>
      exact rowInReset_answersNext (State.setPins_pending fun p => { p with crstn := true }) State.cycleReset_pending
    | crstnDeasserted =>
      exact rowInReset_answersNext (State.setPins_pending fun p => { p with crstn := false })
        (State.setPins_pending fun p => { p with crstn := false })
    | linkTransactionStart =>
      exact rowInReset_answersNext (State.setPins_pending fun p => { p with ssn := true }) State.ssnFalls_pending
    | ssnRises received bits =>
      exact rowInReset_answersNext (g := State.ssnHigh) (fun _ => rfl) (State.ssnRise_pending received)
    | updateTransactionTaken r =>
      exact rowInReset_answersNext (State.presentUpdate_pending r) (State.requestUpdate_pending r)
    | cycleTransactionTaken r =>
      exact rowInReset_answersNext (State.presentCycle_pending r) (State.requestCycle_pending r)
    | qualifyStart line =>
      exact rowInReset_answersNext (State.lineInReset_pending line true) (State.lineRises_pending line)
    | pulseDropped line =>
      exact rowInReset_answersNext (State.lineInReset_pending line false) (State.lineFalls_pending line)
    | writeHoldExpired => exact event_answersNext State.holdRunsOut_pending
    | pulseAccepted line => exact event_answersNext (State.lineQualifies_pending line)
    | periodEnd => exact event_answersNext State.periodEnds_pending
    | commitStart => exact event_answersNext State.startCommit_pending
    | grant => exact event_answersNext State.grantNext_pending
    | memoryAnswer ans => exact event_answersNext (State.endAccess_pending (answerEnd ans))
    | accessTimeout => exact event_answersNext State.timeOut_pending
    | idleTimerRunOut => exact event_answersNext State.idleRunsOut_pending
    | requestFrameDecided frame => exact event_answersNext (State.requestFrame_pending frame)
    | requestDropped => exact event_answersNext State.dropOpenRequest_pending
    | collect => exact event_answersNext State.beginCollect_pending
    | _ => cases hreq

/-- Settles O3: each row is an event, or an operation chosen by RESETN, and none of the operations reaches the queue. -/
theorem everyCommandAnswersNext : Obligations.EveryCommandAnswersNext := fun c s => exec_answersNext c s

/-! ### A step on a queue of commands -/

theorem step_of_pending_cons {s : State} {c : Instr} {rest : List Instr} (h : s.pending = c :: rest) :
    step s = exec c { s with pending := rest } := by
  simp only [step, h]

/-- Settles O1: the step takes the command at the head of the queue. -/
theorem stepRunsTheFrontCommand : Obligations.StepRunsTheFrontCommand := fun _ _ _ => step_of_pending_cons rfl

end Sys2Proof.Machine
end
